-- ==== Sys2Proof/Word.lean ====
section
/-! DEFINITION. The word types of the LJ216 and their plainest arithmetic. -/

namespace Sys2Proof

/-- One byte of memory. -/
abbrev Byte := BitVec 8

/-- A 48-bit physical byte address (Conventions, "Addresses and lines"). -/
abbrev Addr := BitVec 48

/-- A 32-bit word: management data, marker tags, epochs. -/
abbrev Word32 := BitVec 32

/-- A 64-bit word: timebase values, sequence numbers, generations, marker values. -/
abbrev Word64 := BitVec 64

/-- A downstream transfer tag, 0–65,535 (R172). -/
abbrev XferTag := BitVec 16

/-- An initiator number, 0–63 (R161). -/
abbrev Initiator := Fin 64

/-- An upstream request tag, 0–255 (R161). -/
abbrev ReqTag := Fin 256

/-- The index of a window table entry, 0–7 (R1). -/
abbrev WindowIx := Fin 8

/-- The index of a transaction context, 0–15 (R17). -/
abbrev ContextIx := Fin 16

/-- The number of a hold slot, 0–511 (R43). -/
abbrev SlotNo := Fin 512

/-- The number of a read tracking entry, 0–31 (R66). -/
abbrev EntryNo := Fin 32

/-- Bytes of one line by position 0–63: `some b` at the positions of a byte mask, `none` at the others.
The mask and the data of the spec are this one list, so a position outside the mask carries no byte. -/
abbrev LineBytes := List (Option Byte)

/-- The line address of a byte: its address with the low 6 bits zero. -/
def lineOf (a : Addr) : Addr := a &&& 0xFFFFFFFFFFC0#48

/-- The position of a byte within its line, 0–63. -/
def posOf (a : Addr) : Nat := a.toNat % 64

/-- The address of the 8-byte aligned word that holds a byte. -/
def wordOf (a : Addr) : Addr := a &&& 0xFFFFFFFFFFF8#48

end Sys2Proof
end

