-- ==== Sys2Proof/Config.lean ====
section
/-! DEFINITION. The constants of the part that no command changes. The LJ216's manual leaves no value to
an implementation, so there is no free value here (DEDUCED, assumption 20). -/

namespace Sys2Proof.Config

/-- Greatest number of requests in the ingress queue (R163). -/
def ingressDepth : Nat := 8

/-- Greatest number of entries in the event queue (R187). -/
def eventDepth : Nat := 64

/-- Greatest number of entries in the outstanding request table (R172). -/
def outstandingDepth : Nat := 32

/-- Greatest number of contexts in the releasing set (R121). -/
def releasingDepth : Nat := 4

/-- Bytes of the anchor page in front of the ring (R104). -/
def anchorPage : Nat := 4096

/-- Bytes of one anchor copy (R105). -/
def anchorBytes : Nat := 128

/-- Bytes of one body READ of a record (R154). -/
def bodyRead : Nat := 256

/-- One past the highest physical address. -/
def addressSpace : Nat := 2 ^ 48

/-- The magic values of the memory formats (11.4). -/
def recordMagic : Nat := 0x4C4A5243
/-- Magic of a record trailer (11.4). -/
def trailerMagic : Nat := 0x4C4A5254
/-- Magic of a pad (11.4). -/
def padMagic : Nat := 0x4C4A5044
/-- Magic of an anchor (11.4). -/
def anchorMagic : Nat := 0x4C4A4E41

/-- The reflected form of the CRC polynomial 0x1EDC6F41 (Conventions, "Integrity code"). -/
def crcPolynomial : Word32 := 0x82F63B78#32

/-- The command byte of a READ frame (R192). -/
def readByte : Byte := 0x0B#8
/-- The command byte of a WRITE frame (R192). -/
def writeByte : Byte := 0x02#8

/-- The sixteen context indices in ascending order. -/
def contexts : List ContextIx := [0, 1, 2, 3, 4, 5, 6, 7, 8, 9, 10, 11, 12, 13, 14, 15]

/-- The eight window indices in ascending order. -/
def windows : List WindowIx := [0, 1, 2, 3, 4, 5, 6, 7]

end Sys2Proof.Config
end

