-- ==== Sys2Proof/Syntax.lean ====
section
/-! DEFINITION. The commands of the block: one constructor per row of spec/opcode_table.json, with the
operands the spec's rules give the row. -/

namespace Sys2Proof

/-- What an upstream request asks (R161). A READ carries its length. A WRITE carries one entry per byte of
its range: `some b` is an enabled byte with its data, `none` a byte whose enable is clear (DEDUCED, assumption 4). -/
inductive UpKind where
  | read (length : Nat)
  | write (bytes : List (Option Byte))
  deriving DecidableEq, Repr

/-- An upstream request (R161). -/
structure UpRequest where
  kind : UpKind
  initiator : Initiator
  tag : ReqTag
  addr : Addr
  deriving DecidableEq, Repr

/-- The memory's answer to a downstream request (9.4): an acknowledgement, with the data of a READ, or an
error response. -/
inductive DownResponse where
  | ack (data : List Byte)
  | error
  deriving DecidableEq, Repr

/-- The two register pairs whose _LO read captures a shadow (R196). -/
inductive SequencePair where
  | nextSequence
  | durableTailSequence
  deriving DecidableEq, Repr

/-- The window field registers (R196). -/
inductive WindowRegister where
  | mode
  | baseLo | baseHi
  | maskLo | maskHi
  | markerPatternLo | markerPatternHi
  | markerMaskLo | markerMaskHi
  | signature
  | lengthLimit
  | idleTimeout
  | policy
  deriving DecidableEq, Repr

/-- The commands of the LJ216. -/
inductive Instr where
  /-- COLD_RESET (R42): RESET_N or power loss. -/
  | coldReset
  /-- PFWARN_ASSERTED (R180). -/
  | pfwarnAsserted
  /-- PFWARN_DEASSERTED (R184). -/
  | pfwarnDeasserted
  /-- UPSTREAM_REQUEST (R163): an initiator offers a request at the upstream port. -/
  | upstreamRequest (request : UpRequest)
  /-- HEAD_EVALUATION (R165). -/
  | headEvaluation
  /-- IDLE_TIMER_EXPIRY (R29) of one context. -/
  | idleTimerExpiry (context : ContextIx)
  /-- ORPHAN_TIMER_EXPIRY (R31) of one context. -/
  | orphanTimerExpiry (context : ContextIx)
  /-- STALL_TIMER_EXPIRY (R168). -/
  | stallTimerExpiry
  /-- TAKE_COMMIT_HEAD (R84). -/
  | takeCommitHead
  /-- ARBITER_GRANT (R173). -/
  | arbiterGrant
  /-- RECORD_WRITE_RESPONSE (R92): the memory's answer carrying a transfer tag. -/
  | recordWriteResponse (tag : XferTag) (response : DownResponse)
  /-- RECORD_FLUSH_RESPONSE (R94). -/
  | recordFlushResponse (tag : XferTag) (response : DownResponse)
  /-- RELEASE_TAKE_HEAD (R123). -/
  | releaseTakeHead
  /-- RELEASE_WRITE_RESPONSE (R126). -/
  | releaseWriteResponse (tag : XferTag) (response : DownResponse)
  /-- RETIREMENT (R128). -/
  | retirement
  /-- ANCHOR_UPDATE_START (R112). -/
  | anchorUpdateStart
  /-- HOME_FLUSH_RESPONSE (R114). -/
  | homeFlushResponse (tag : XferTag) (response : DownResponse)
  /-- ANCHOR_WRITE_RESPONSE (R114). -/
  | anchorWriteResponse (tag : XferTag) (response : DownResponse)
  /-- ANCHOR_FLUSH_RESPONSE (R115). -/
  | anchorFlushResponse (tag : XferTag) (response : DownResponse)
  /-- DRAIN_COMPLETE (R183). -/
  | drainComplete
  /-- READ_RESPONSE (R73): the answer to the READ of a tracking entry. -/
  | readResponse (tag : XferTag) (response : DownResponse)
  /-- INGRESS_RESPONSE (R169). -/
  | ingressResponse (tag : XferTag) (response : DownResponse)
  /-- LATE_RESPONSE_DISCARD (R176). -/
  | lateResponseDiscard (tag : XferTag) (response : DownResponse)
  /-- RESPONSE_TIMER_EXPIRY (R175) of the entry carrying a transfer tag. -/
  | responseTimerExpiry (tag : XferTag)
  /-- ANCHOR_READ_RESPONSE (R150). -/
  | anchorReadResponse (tag : XferTag) (response : DownResponse)
  /-- SCAN_READ_RESPONSE (R152). -/
  | scanReadResponse (tag : XferTag) (response : DownResponse)
  /-- RECORD_READ_RESPONSE (R154). -/
  | recordReadResponse (tag : XferTag) (response : DownResponse)
  /-- REPLAY_WRITE_RESPONSE (R157). -/
  | replayWriteResponse (tag : XferTag) (response : DownResponse)
  /-- WARM_RESET_CLEARING (R148). -/
  | warmResetClearing
  /-- START (R140): a CONTROL write whose START bit is 1; the operand gives the word's other bits. -/
  | start (value : Word32)
  /-- FORMAT (R151): a CONTROL write whose START and FORMAT bits are 1. -/
  | format (value : Word32)
  /-- WARM_RESET (R146): a CONTROL write whose WARM_RESET bit is 1. -/
  | warmReset (value : Word32)
  /-- CLEAR_OVERFLOW (R190): a CONTROL write whose CLEAR_OVERFLOW bit is 1. -/
  | clearOverflow (value : Word32)
  /-- IRQ_ENABLE_SET (R195): a CONTROL write whose IRQ_ENABLE_SET bit is 1. -/
  | irqEnableSet (value : Word32)
  /-- IRQ_ENABLE_CLEAR (R195): a CONTROL write whose IRQ_ENABLE_CLEAR bit is 1. -/
  | irqEnableClear (value : Word32)
  /-- EVENT_POP (R189): a READ frame of EVENT_POP. -/
  | eventPop
  /-- SEQUENCE_LO_READ (R196): a READ frame of a _LO word. -/
  | sequenceLoRead (pair : SequencePair)
  /-- WINDOW_FIELD_WRITE (R6): a WRITE frame to a window field register. -/
  | windowFieldWrite (register : WindowRegister) (value : Word32)
  /-- REGISTER_WRITE (R193): a WRITE frame to a register address. -/
  | registerWrite (address : BitVec 16) (value : Word32)
  /-- BAD_COMMAND_FRAME (R192): a management frame by the whole bytes shifted in. The row's own frame has a command byte that is
  neither READ nor WRITE; READ and WRITE frames, whole or cut short, are the other byte lists of this operand (DESIGN CHOICE,
  assumption 18). -/
  | badCommandFrame (frame : List Byte)
  deriving DecidableEq, Repr

/-- The number of bytes of a request's range (R161). -/
def UpRequest.length (r : UpRequest) : Nat :=
  match r.kind with
  | .read n => n
  | .write bs => bs.length

/-- The number of data bytes an answer of the memory carries. -/
def DownResponse.size : DownResponse → Nat
  | .ack d => d.length
  | .error => 0

end Sys2Proof
end

