-- ==== Sys2Proof/WellFormed.lean ====
section
/-! DEFINITION. Which terms of the syntax are commands of the spec. -/

namespace Sys2Proof

/-- A request's length is 1–256 bytes (R161). -/
def UpRequest.WellFormed (r : UpRequest) : Bool :=
  1 ≤ r.length && r.length ≤ 256

/-- A response carries at most the 256 bytes a READ can ask for (9.4). -/
def DownResponse.WellFormed (r : DownResponse) : Bool :=
  r.size ≤ 256

/-- The well-formed commands. -/
def Instr.WellFormed : Instr → Bool
  | .coldReset => true
  | .pfwarnAsserted => true
  | .pfwarnDeasserted => true
  | .upstreamRequest r => r.WellFormed
  | .headEvaluation => true
  | .idleTimerExpiry _ => true
  | .orphanTimerExpiry _ => true
  | .stallTimerExpiry => true
  | .takeCommitHead => true
  | .arbiterGrant => true
  | .recordWriteResponse _ r => r.WellFormed
  | .recordFlushResponse _ r => r.WellFormed
  | .releaseTakeHead => true
  | .releaseWriteResponse _ r => r.WellFormed
  | .retirement => true
  | .anchorUpdateStart => true
  | .homeFlushResponse _ r => r.WellFormed
  | .anchorWriteResponse _ r => r.WellFormed
  | .anchorFlushResponse _ r => r.WellFormed
  | .drainComplete => true
  | .readResponse _ r => r.WellFormed
  | .ingressResponse _ r => r.WellFormed
  | .lateResponseDiscard _ r => r.WellFormed
  | .responseTimerExpiry _ => true
  | .anchorReadResponse _ r => r.WellFormed
  | .scanReadResponse _ r => r.WellFormed
  | .recordReadResponse _ r => r.WellFormed
  | .replayWriteResponse _ r => r.WellFormed
  | .warmResetClearing => true
  | .start _ => true
  | .format _ => true
  | .warmReset _ => true
  | .clearOverflow _ => true
  | .irqEnableSet _ => true
  | .irqEnableClear _ => true
  | .eventPop => true
  | .sequenceLoRead _ => true
  | .windowFieldWrite _ _ => true
  | .registerWrite _ _ => true
  | .badCommandFrame _ => true

end Sys2Proof
end

