-- ==== Sys2Proof/Decode.lean ====
section
/-! DEFINITION. The command that a word spells by the bits of spec/opcode_table.json. The table gives no row
any bits ("fields" is empty in all 40 rows and there is no "fixed"), so no word spells a command (DEDUCED, assumption 2). -/

namespace Sys2Proof

/-- The command an `nbits`-bit word `w` spells: none, since no row of the table gives bits. -/
def decodeTableWord (nbits w : Nat) : Option Instr :=
  match nbits, w with
  | _, _ => none

end Sys2Proof
end

