-- ==== Sys2Proof/Machine/State.lean ====
section
/-! DEFINITION. The state of the LJ216: every piece of state the spec gives a block of the part, as plain data. -/

namespace Sys2Proof.Machine

/-- The device mode (R138). -/
inductive Mode where
  | init | recovering | online | draining | drained | faulted
  deriving DecidableEq, Repr

/-! ## The window table (R1) -/

/-- The mode of a window entry. -/
inductive WindowMode where
  | off | pass | journal
  deriving DecidableEq, Repr

/-- What a data write does when no hold slot is free. -/
inductive FullPolicy where
  | stall | fail
  deriving DecidableEq, Repr

/-- When a COMMIT is answered. -/
inductive AckMode where
  | early | durable
  deriving DecidableEq, Repr

/-- One entry of the window table (R1). -/
structure Window where
  mode : WindowMode
  base : Addr
  mask : Addr
  markerPattern : Addr
  markerMask : Addr
  signature : BitVec 16
  lengthLimit : Nat
  idleTimeout : BitVec 16
  fullPolicy : FullPolicy
  ackMode : AckMode
  durableEvent : Bool
  retiredEvent : Bool
  abortedEvent : Bool
  deriving DecidableEq, Repr

/-! ## Transaction contexts (R17, R18, R40) -/

/-- Why a context failed (R27). -/
inductive FailReason where
  | idle | length | conflict | noSlot | stall | power | journal
  deriving DecidableEq, Repr

/-- The fields every context but a FREE one holds: initiator, window and open tag (R17). -/
structure Owner where
  initiator : Initiator
  window : WindowIx
  openTag : Word32
  deriving DecidableEq, Repr

/-- The commit tag, commit marker address and commit marker value of a committed context (R17). -/
structure CommitMarker where
  tag : Word32
  address : Addr
  value : Word64
  deriving DecidableEq, Repr

/-- The initiator and request tag of a request whose answer is held (R34). -/
structure Requester where
  initiator : Initiator
  tag : ReqTag
  deriving DecidableEq, Repr

/-- The sequence and ring offset of a context's record (R17). -/
structure RecordPlace where
  sequence : Word64
  offset : Nat
  deriving DecidableEq, Repr

/-- One context of the context table. Each state carries just the fields R17 marks as present in it; the
slot list and entry count are read from the hold buffer (`State.slotList`, `State.entryCount`). The Bool of
`opened` says whether the idle timer runs (R29); the number of `failed` is the captured length of a running
orphan timer in milliseconds (R31), absent when a reset stopped it (R41). -/
inductive Context where
  | free
  | opened (owner : Owner) (interfered : Bool) (lastActivity : Word64) (idleTimer : Bool)
  | failed (owner : Owner) (reason : FailReason) (failedAt : Word64) (orphanTimer : Option Nat)
  | queued (owner : Owner) (interfered : Bool) (commit : CommitMarker) (pending : Option Requester)
  | writing (owner : Owner) (interfered : Bool) (commit : CommitMarker) (place : RecordPlace)
      (pending : Option Requester)
  | durable (owner : Owner) (interfered : Bool) (commit : CommitMarker) (place : RecordPlace)
  | releasing (owner : Owner) (interfered : Bool) (commit : CommitMarker) (place : RecordPlace)
  deriving DecidableEq, Repr

/-- One entry of the binding map (R18). -/
structure Binding where
  initiator : Initiator
  window : WindowIx
  context : ContextIx
  deriving DecidableEq, Repr

/-- One entry of the in-doubt list (R40). -/
structure InDoubt where
  requester : Requester
  sequence : Word64
  deriving DecidableEq, Repr

/-! ## The hold buffer (R43) and the read tracking table (R66) -/

/-- A HELD slot: its number, line address, masked bytes and owner (R43). -/
structure HeldSlot where
  number : SlotNo
  line : Addr
  bytes : LineBytes
  owner : ContextIx
  deriving DecidableEq, Repr

/-- The bytes a read forwarder lays over one line (R66). -/
structure Overlay where
  line : Addr
  bytes : LineBytes
  deriving DecidableEq, Repr

/-- An ACTIVE read tracking entry (R66). -/
structure TrackEntry where
  requester : Requester
  addr : Addr
  length : Nat
  overlays : List Overlay
  deriving DecidableEq, Repr

/-! ## Downstream requests (9.4) and the references of their owners (R172) -/

/-- A downstream request (9.4). -/
inductive DownRequest where
  | read (addr : Addr) (length : Nat)
  | write (line : Addr) (bytes : LineBytes)
  | flush
  deriving DecidableEq, Repr

/-- The kind of an outstanding request; a READ's length says how much data its answer carries. -/
inductive DownKind where
  | read (length : Nat)
  | write
  | flush
  deriving DecidableEq, Repr

/-- The two anchor copies (R105). -/
inductive AnchorCopy where
  | a | b
  deriving DecidableEq, Repr

/-- The five requesters of the outbound arbiter (R173). -/
inductive Port where
  | ingress | writer | ring | release | recovery
  deriving DecidableEq, Repr

/-- The reference by which the owner of a downstream request knows it (R172). -/
inductive Ref where
  /-- A request of the pending answer with this number (R169). -/
  | pendingAnswer (id : Nat)
  /-- The READ of a tracking entry (R70). -/
  | tracking (entry : EntryNo)
  /-- A record or pad write of a context's record (R91). -/
  | recordWrite (context : ContextIx)
  /-- The record flush (R93). -/
  | recordFlush
  /-- The home FLUSH of an anchor update (R112). -/
  | homeFlush
  /-- A write of the anchor copy (R114). -/
  | anchorWrite
  /-- The anchor FLUSH (R114). -/
  | anchorFlush
  /-- A release line write of a context (R124). -/
  | releaseLine (context : ContextIx)
  /-- The release marker write of a context (R124). -/
  | releaseMarker (context : ContextIx)
  /-- The READ of an anchor copy (R150). -/
  | anchorRead (copy : AnchorCopy)
  /-- The READ of the 16 bytes at the scan offset (R152). -/
  | scanRead
  /-- The READ that completes a record header (R154). -/
  | headerRead
  /-- A READ of the rest of a record, from this offset of the record (R154). -/
  | bodyRead (offset : Nat)
  /-- An entry write of a replayed record (R156). -/
  | replayEntry
  /-- The marker write of a replayed record (R156). -/
  | replayMarker
  /-- A zeroing write of anchor copy B (R151). -/
  | zeroWrite
  deriving DecidableEq, Repr

/-- An entry of the outstanding request table (R172). -/
structure OutEntry where
  tag : XferTag
  kind : DownKind
  address : Option Addr
  ref : Ref
  issuedAt : Word64
  timeout : Nat
  deriving DecidableEq, Repr

/-- The downstream port and outbound arbiter (R172, R173): the outstanding request table, the transfer tag
counter and the requester at which the next grant's search starts. -/
structure Downstream where
  outstanding : List OutEntry
  counter : XferTag
  searchFrom : Port
  deriving DecidableEq, Repr

/-! ## Answers, events and management replies -/

/-- The marker refusal reasons of the context manager (R19). -/
inductive MarkerRefusal where
  | mode | nested | full | noContext
  deriving DecidableEq, Repr

/-- The reason of a REFUSED answer (R162). -/
inductive RefuseReason where
  | marker (reason : MarkerRefusal)
  | malformed
  | reset
  deriving DecidableEq, Repr

/-- The reason of a FAILED answer (R162). -/
inductive FailedReason where
  | context (reason : FailReason)
  | reset
  | recovery
  deriving DecidableEq, Repr

/-- The code of an answer (R162); the data of OK is the data of a READ, empty for any other request. -/
inductive AnswerCode where
  | ok (data : List Byte)
  | refused (reason : RefuseReason)
  | failed (reason : FailedReason)
  | timeout
  | memoryError
  deriving DecidableEq, Repr

/-- An answer leaving the upstream port (R162). -/
structure Answer where
  requester : Requester
  code : AnswerCode
  deriving DecidableEq, Repr

/-- What a MALFORMED request failed (R13). -/
inductive MalformedDetail where
  | shape | unknownCode | signature | nonzero
  deriving DecidableEq, Repr

/-- The detail of a journal fault (R96, R117). -/
inductive JournalDetail where
  | write | flush | anchorWrite | anchorFlush
  deriving DecidableEq, Repr

/-- The detail of a release fault (R130). -/
inductive ReleaseDetail where
  | line | marker
  deriving DecidableEq, Repr

/-- The detail of a recovery fault (R159). -/
inductive RecoveryDetail where
  | noAnchor | anchorRead | scanRead | replay | close
  deriving DecidableEq, Repr

/-- An event kind with the fields its row of R188 gives it. -/
inductive EventBody where
  | txnDurable (context : ContextIx) (initiator : Initiator) (window : WindowIx) (sequence : Word64) (count : Nat)
  | txnRetired (context : ContextIx) (initiator : Initiator) (window : WindowIx) (sequence : Word64) (count : Nat)
  | txnAborted (context : ContextIx) (initiator : Initiator) (window : WindowIx) (count : Nat)
  | txnFailed (context : ContextIx) (initiator : Initiator) (window : WindowIx) (sequence : Option Word64)
      (reason : FailReason) (address : Option Addr) (count : Nat)
  | txnOrphaned (context : ContextIx) (initiator : Initiator) (window : WindowIx) (reason : FailReason)
  | markerRefused (context : Option ContextIx) (initiator : Initiator) (window : WindowIx)
      (reason : MarkerRefusal) (address : Addr)
  | markerMalformed (initiator : Initiator) (window : WindowIx) (detail : MalformedDetail) (address : Addr)
  | requestTimeout (initiator : Initiator) (window : WindowIx) (address : Addr)
  | downstreamTimeout (initiator : Option Initiator) (port : Port) (address : Option Addr)
  | journalFault (sequence : Option Word64) (detail : JournalDetail) (address : Option Addr) (count : Nat)
  | releaseFault (context : ContextIx) (initiator : Initiator) (window : WindowIx) (sequence : Word64)
      (detail : ReleaseDetail) (address : Option Addr)
  | recoveryDone (sequence : Word64) (count : Nat)
  | recoveryFault (sequence : Option Word64) (detail : RecoveryDetail) (address : Option Addr) (count : Option Nat)
  | drainDone (sequence : Word64)
  | modeChange (mode : Mode) (left : Mode)
  deriving DecidableEq, Repr

/-- An event entry: its timestamp, the low 32 bits of the timebase at the push, and its kind (R187, R188). -/
structure Event where
  timestamp : Word32
  body : EventBody
  deriving DecidableEq, Repr

/-- The event queue, its overflow flag and the event window (R187, R189); an absent window event is NONE. -/
structure EventQueue where
  entries : List Event
  overflow : Bool
  window : Option Event
  deriving DecidableEq, Repr

/-- The status byte of a management frame (R193). -/
inductive Status where
  | ok | busy | badAddr
  deriving DecidableEq, Repr

/-- What the bridge answers a management frame with (R192): the register value of a READ, nothing for a WRITE, and the status
of byte 7, absent where the frame was cut short before it. `Reply.shifted` gives the bytes on MISO. -/
structure Reply where
  data : Option Word32
  status : Option Status
  deriving DecidableEq, Repr

/-! ## The ingress side (R163–R170) -/

/-- The marker commands (R12). -/
inductive MarkerCommand where
  | openTxn | commitTxn | abortTxn
  deriving DecidableEq, Repr

/-- What the mode wait holds, for the answer of its expiry (R145): the classification of the evaluation that entered the wait
(DESIGN CHOICE, assumption 31). For a read over several windows the window is that of its first piece in a journal window
(DESIGN CHOICE, assumption 32). -/
inductive HeldRequest where
  | marker (command : MarkerCommand) (window : WindowIx) (address : Addr)
  | data (window : WindowIx) (address : Addr)
  deriving DecidableEq, Repr

/-- The timed waits of the head (R167), each with what its expiry reports: the mode wait (R143), the slot
wait of a context for a line (R52), the bare wait of a window's piece (R60) and the tracking entry wait of a
read (R71). -/
inductive HeadWait where
  | mode (held : HeldRequest)
  | slot (context : ContextIx) (line : Addr)
  | bare (window : WindowIx) (address : Addr)
  | tracking (window : WindowIx)
  deriving DecidableEq, Repr

/-- The stall timer of the head: its start and captured length in microseconds (R167). -/
structure StallTimer where
  start : Word64
  length : Nat
  deriving DecidableEq, Repr

/-- A piece the walk settled as cleared (R54); `bare` marks a bare piece, for R56. -/
structure ClearedPiece where
  line : Addr
  bytes : LineBytes
  bare : Bool
  deriving DecidableEq, Repr

/-- The progress of a paused walk (R54, R55): the number of pieces settled, the cleared pieces, the contexts
into which it placed pieces, and the reason such a context failed with during the wait. -/
structure Walk where
  settled : Nat
  cleared : List ClearedPiece
  placed : List ContextIx
  failed : Option FailReason
  deriving DecidableEq, Repr

/-- A request of the hand-over list (R166); `beforeReset` marks one that stood there when a warm reset began
(R147). -/
structure HandOver where
  request : DownRequest
  ref : Ref
  beforeReset : Bool
  deriving DecidableEq, Repr

/-- A pending answer (R169). -/
structure PendingAnswer where
  id : Nat
  requester : Requester
  remaining : Nat
  failed : Bool
  deriving DecidableEq, Repr

/-- The ingress side: the queue with its head first, the wait, stall timer and walk of the head, the hand-over
list, the pending answers, and the number the next pending answer takes. -/
structure Ingress where
  queue : List UpRequest
  wait : Option HeadWait
  timer : Option StallTimer
  walk : Option Walk
  handOver : List HandOver
  answers : List PendingAnswer
  nextAnswer : Nat
  deriving DecidableEq, Repr

/-! ## What an evaluation of the head finds -/

/-- What the marker checks find of a request: no marker word touched, a MALFORMED request with the window, address
and detail of R14, or an exact marker write that passes them (R13). -/
inductive MarkerCheck where
  | none
  | malformed (window : WindowIx) (address : Addr) (detail : MalformedDetail)
  | marker (window : WindowIx) (address : Addr) (command : MarkerCommand) (value : Word64)
  deriving DecidableEq, Repr

/-- An exact marker write handed to the context manager (R15). -/
structure MarkerWrite where
  requester : Requester
  window : WindowIx
  address : Addr
  value : Word64
  deriving DecidableEq, Repr

/-- What the binding of a pair names: nothing, an OPEN context, or a FAILED one with its reason (R18). -/
inductive Bound where
  | unbound
  | opened (context : ContextIx)
  | failed (context : ContextIx) (reason : FailReason)
  deriving DecidableEq, Repr

/-- How the walk settles a piece (R54): cleared; placed, into a context or, for an empty piece, with no effect; failed;
or waiting. -/
inductive Settled where
  | cleared (piece : ClearedPiece)
  | placed (context : Option ContextIx)
  | failed (reason : FailReason)
  | waiting (wait : HeadWait)
  deriving DecidableEq, Repr

/-- How a walk ends (R54): complete, stopped with a reason, or paused in a wait. -/
inductive WalkEnd where
  | complete
  | stopped (reason : FailReason)
  | paused (wait : HeadWait)
  deriving DecidableEq, Repr

/-! ## The journal writer (chapter 5) -/

/-- A record of the open batch: its context, the writes not yet granted, and the number of granted writes not
yet answered (R92). -/
structure BatchRecord where
  context : ContextIx
  toIssue : List DownRequest
  unanswered : Nat
  deriving DecidableEq, Repr

/-- The record flush in flight and the contexts it covers in ascending sequence; `presented` while the FLUSH
waits for its grant (R93). -/
structure RecordFlush where
  contexts : List ContextIx
  presented : Bool
  deriving DecidableEq, Repr

/-- The journal writer: ACTIVE or STOPPED, the commit queue, the open batch and the flush in flight. -/
structure Writer where
  active : Bool
  commitQueue : List ContextIx
  openBatch : List BatchRecord
  flight : Option RecordFlush
  deriving DecidableEq, Repr

/-! ## The ring manager (R106) -/

/-- The anchor update state (R111). -/
inductive AnchorUpdate where
  | idle | homeFlush | anchorWrite | anchorFlush
  deriving DecidableEq, Repr

/-- The snapshot of an anchor update (R113); absent until the home FLUSH is granted (DEDUCED, assumption 30). -/
structure Snapshot where
  offset : Nat
  sequence : Word64
  unanchored : Nat
  deriving DecidableEq, Repr

/-- A pad the retired tail has not yet passed (R106). -/
structure Pad where
  offset : Nat
  length : Nat
  deriving DecidableEq, Repr

/-- The ring manager (R106). The last three fields are the progress of the update in flight: whether it is the
closing update of a recovery (R120), its requests not yet granted, and the anchor writes acknowledged. -/
structure Ring where
  epoch : Word32
  head : Nat
  nextSequence : Word64
  retiredOffset : Nat
  retiredSequence : Word64
  durableOffset : Nat
  durableSequence : Word64
  live : Nat
  unanchored : Nat
  retirements : Nat
  pendingPad : Option Pad
  generation : Word64
  nextCopy : AnchorCopy
  update : AnchorUpdate
  snapshot : Option Snapshot
  again : Bool
  spaceRequest : Bool
  closing : Bool
  toIssue : List (DownRequest × Ref)
  writesAcked : Nat
  deriving DecidableEq, Repr

/-- What a reservation grants: the record offset, and the pad in front of it where there is one (R108). -/
structure Grant where
  offset : Nat
  pad : Option Pad
  deriving DecidableEq, Repr

/-! ## The release engine (R121) -/

/-- The progress of a releasing context: line writes issued and acknowledged, marker write issued and
acknowledged (R121). -/
structure Progress where
  context : ContextIx
  issued : Nat
  acked : Nat
  markerIssued : Bool
  markerAcked : Bool
  deriving DecidableEq, Repr

/-- A release write presented to the arbiter (R125). -/
inductive ReleaseWrite where
  | line (context : ContextIx)
  | marker (context : ContextIx)
  deriving DecidableEq, Repr

/-- The release engine: ACTIVE or HALTED, the release queue, the releasing set and the presented write. -/
structure Release where
  active : Bool
  queue : List ContextIx
  releasing : List Progress
  presented : Option ReleaseWrite
  deriving DecidableEq, Repr

/-! ## The recovery engine (R149) -/

/-- The chosen anchor (R149). -/
structure ChosenAnchor where
  copy : AnchorCopy
  generation : Word64
  epoch : Word32
  tailOffset : Nat
  tailSequence : Word64
  deriving DecidableEq, Repr

/-- Where the examination of the item at the scan offset stands: its 16 bytes are being read, its header is, its
body is with this many READs unanswered, its entries are being replayed with this many unacknowledged, its
marker write waits for its grant, or the scan has ended and replay writes are outstanding (R152–R156). -/
inductive ScanStep where
  | item
  | header
  | body (missing : Nat)
  | entries (left : Nat)
  | marker
  | ended
  deriving DecidableEq, Repr

/-- The fields of the SCAN phase (R149), the step of the item, and the replay writes not yet acknowledged. -/
structure Scan where
  chosen : ChosenAnchor
  offset : Nat
  expected : Word64
  scanned : Nat
  buffer : List Byte
  replayed : Nat
  step : ScanStep
  unanswered : Nat
  deriving DecidableEq, Repr

/-- The fields of the CLOSE phase (R149) and the zeroing writes not yet acknowledged (R151). -/
structure Close where
  chosen : Option ChosenAnchor
  format : Bool
  endOffset : Nat
  endSequence : Word64
  replayed : Nat
  zeroing : Nat
  deriving DecidableEq, Repr

/-- The phase of the recovery engine with the fields present in it (R149). -/
inductive Phase where
  | idle
  | quiesce
  | anchors (format : Bool) (copyA : Option (List Byte)) (copyB : Option (List Byte))
  | scan (scan : Scan)
  | close (close : Close)
  deriving DecidableEq, Repr

/-- The recovery engine: its phase and its requests not yet granted, in the order presented. -/
structure Recovery where
  phase : Phase
  toIssue : List (DownRequest × Ref)
  deriving DecidableEq, Repr

/-! ## The management registers (R194) -/

/-- The read/write registers, IRQ_ENABLE and the two sequence shadows (R194–R196). -/
structure Settings where
  journalBase : Addr
  ringSizeLog2 : Nat
  journalEpoch : Word32
  timebaseDiv : Nat
  anchorInterval : Nat
  flushBatch : Nat
  stallTimeout : Nat
  orphanTimeout : Nat
  downstreamTimeout : Nat
  windowSelect : WindowIx
  irqEnable : Bool
  nextSequenceShadow : Word32
  durableTailShadow : Word32
  deriving DecidableEq, Repr

/-- The registers the management port serves (R194, R196). -/
inductive Register where
  | mode
  | control
  | eventCount
  | eventPop
  | eventWord (i : Fin 7)
  | occupancy
  | ringHead
  | ringDurableTail
  | ringLive
  | sequenceLo (pair : SequencePair)
  | sequenceHi (pair : SequencePair)
  | journalBaseLo
  | journalBaseHi
  | ringSizeLog2
  | journalEpoch
  | timebaseDiv
  | anchorInterval
  | flushBatch
  | stallTimeout
  | orphanTimeout
  | downstreamTimeout
  | windowSelect
  | windowField (r : WindowRegister)
  deriving DecidableEq, Repr

/-! ## The whole machine -/

/-- The state of the LJ216. The DRAINED and IRQ outputs, the line index, the slot lists and the entry counts are
views of it. `upOut`, `dnOut` and `reply` are what has left the upstream, downstream and management ports since
the last cold reset; `pending` is the queue of commands waiting (the model's own fields). -/
structure State where
  /-- Device mode (R138). -/
  mode : Mode
  /-- Level of the PFWARN input (R180). -/
  pfwarn : Bool
  /-- The microsecond timebase ("Time base"). -/
  timebase : Word64
  /-- REFCLK periods left until the timebase's next count ("Time base", R194). -/
  refclkLeft : Nat
  /-- Management registers (R194). -/
  settings : Settings
  /-- Window table (R1). -/
  windows : Vector Window 8
  /-- Context table (R17). -/
  contexts : Vector Context 16
  /-- Binding map (R18). -/
  bindings : List Binding
  /-- In-doubt list (R40). -/
  inDoubt : List InDoubt
  /-- The HELD slots in the order they were allocated (R43–R45). -/
  hold : List HeldSlot
  /-- Read tracking table (R66). -/
  tracking : Vector (Option TrackEntry) 32
  /-- Ingress side (R163–R170). -/
  ingress : Ingress
  /-- Journal writer (chapter 5). -/
  writer : Writer
  /-- Ring manager (R106). -/
  ring : Ring
  /-- Release engine (R121). -/
  release : Release
  /-- Recovery engine (R149). -/
  recovery : Recovery
  /-- Downstream port and arbiter (R172, R173). -/
  downstream : Downstream
  /-- Event queue and event window (R187, R189). -/
  events : EventQueue
  /-- Answers that have left the upstream port, oldest first. -/
  upOut : List Answer
  /-- Requests issued downstream with their transfer tags, oldest first. -/
  dnOut : List (XferTag × DownRequest)
  /-- The reply of the last management frame. -/
  reply : Option Reply
  /-- The commands waiting, first in first out. -/
  pending : List Instr
  deriving DecidableEq, Repr

/-- Why the machine stops with a fault. -/
inductive Fault where
  /-- Raised by the commands that take the memory's answer to a READ (READ_RESPONSE, INGRESS_RESPONSE,
  ANCHOR_READ_RESPONSE, SCAN_READ_RESPONSE, RECORD_READ_RESPONSE) when the acknowledgement does not carry as many
  bytes as the READ asked for. 9.4 has the memory answer with that many bytes, so no memory the manual speaks of
  does this. Safe: the model stops. -/
  | readDataLength
  deriving DecidableEq, Repr

/-- Why a command has no meaning. -/
inductive Refusal where
  /-- Raised by exec's arm of a command that has no meaning yet. Safe. -/
  | notModelled (mnemonic : String)
  /-- Raised by UPSTREAM_REQUEST for a length of 0 or above 256: the term is no command of the spec (R161). Safe. -/
  | illFormed
  deriving DecidableEq, Repr

/-! ## Reset values -/

/-- A window entry after cold reset (R1). -/
def Window.cold : Window :=
  { mode := .off, base := 0, mask := 0, markerPattern := 0, markerMask := 0, signature := 0, lengthLimit := 64,
    idleTimeout := 0, fullPolicy := .stall, ackMode := .durable, durableEvent := false, retiredEvent := false,
    abortedEvent := false }

/-- The registers after cold reset (R194, R196). -/
def Settings.cold : Settings :=
  { journalBase := 0, ringSizeLog2 := 16, journalEpoch := 0, timebaseDiv := 100, anchorInterval := 16, flushBatch := 4,
    stallTimeout := 2000, orphanTimeout := 100, downstreamTimeout := 500, windowSelect := 0, irqEnable := false,
    nextSequenceShadow := 0, durableTailShadow := 0 }

/-- The ingress side after cold reset (R163, R170). -/
def Ingress.cold : Ingress :=
  { queue := [], wait := none, timer := none, walk := none, handOver := [], answers := [], nextAnswer := 0 }

/-- The journal writer after cold reset (R82, R103). -/
def Writer.cold : Writer :=
  { active := false, commitQueue := [], openBatch := [], flight := none }

/-- The ring manager after cold reset (R106). -/
def Ring.cold : Ring :=
  { epoch := 0, head := 0, nextSequence := 0, retiredOffset := 0, retiredSequence := 0, durableOffset := 0,
    durableSequence := 0, live := 0, unanchored := 0, retirements := 0, pendingPad := none, generation := 0,
    nextCopy := .a, update := .idle, snapshot := none, again := false, spaceRequest := false, closing := false,
    toIssue := [], writesAcked := 0 }

/-- The release engine after cold reset (R121). -/
def Release.cold : Release :=
  { active := false, queue := [], releasing := [], presented := none }

/-- The recovery engine after cold reset (R149). -/
def Recovery.cold : Recovery :=
  { phase := .idle, toIssue := [] }

/-- The downstream port after cold reset (R172, R173). -/
def Downstream.cold : Downstream :=
  { outstanding := [], counter := 0, searchFrom := .ingress }

/-- The event queue after cold reset (R187, R189). -/
def EventQueue.cold : EventQueue :=
  { entries := [], overflow := false, window := none }

/-- The state after cold reset (R9, R42, R64, R79, R103, R119, R137, R138, R170, R186, R187, R191, R194). PFWARN is an
input; its level at reset is a DESIGN CHOICE (assumption 3). -/
def State.reset : State :=
  { mode := .init
    pfwarn := false
    timebase := 0
    refclkLeft := 100
    settings := Settings.cold
    windows := Vector.replicate 8 Window.cold
    contexts := Vector.replicate 16 Context.free
    bindings := []
    inDoubt := []
    hold := []
    tracking := Vector.replicate 32 none
    ingress := Ingress.cold
    writer := Writer.cold
    ring := Ring.cold
    release := Release.cold
    recovery := Recovery.cold
    downstream := Downstream.cold
    events := EventQueue.cold
    upOut := []
    dnOut := []
    reply := none
    pending := [] }

end Sys2Proof.Machine
end

