-- ==== Sys2Proof/Machine/Formats.lean ====
section
/-! DEFINITION. Byte order, line cutting, the integrity code, and the layouts of the memory formats and of the event
words (11.3, 11.4). -/

namespace Sys2Proof.Machine

/-! ## Bytes and lines -/

/-- The `n` little-endian bytes of a number (Conventions, "Byte order"). -/
def leBytes : Nat → Nat → List Byte
  | 0, _ => []
  | n + 1, v => BitVec.ofNat 8 v :: leBytes n (v / 256)

/-- The number that little-endian bytes spell. -/
def leNat : List Byte → Nat
  | [] => 0
  | b :: bs => b.toNat + 256 * leNat bs

/-- The number in `n` little-endian bytes at an offset of an item. -/
def field (bs : List Byte) (offset n : Nat) : Nat :=
  leNat ((bs.drop offset).take n)

/-- Cuts what stands at consecutive bytes from address `a` at the line boundaries of memory (R91, R164): the
address of each part's first byte, and the part. The first argument bounds the number of parts. -/
def cutLines {α : Type} : Nat → Nat → List α → List (Nat × List α)
  | 0, _, _ => []
  | _ + 1, _, [] => []
  | k + 1, a, x :: xs =>
    (a, (x :: xs).take (64 - a % 64)) :: cutLines k (a + (64 - a % 64)) ((x :: xs).drop (64 - a % 64))

/-- The 64 positions of a line in which `bytes` stand from position `pos` up, and no other byte stands. -/
def lineBytesAt (pos : Nat) (bytes : List (Option Byte)) : LineBytes :=
  (List.replicate pos none ++ bytes ++ List.replicate 64 none).take 64

/-- Lays `top` over `under`, position by position (R47, R67). -/
def layOver (under top : LineBytes) : LineBytes :=
  List.zipWith (fun u t => t <|> u) under top

/-- A line with no byte present. -/
def emptyLine : LineBytes := List.replicate 64 none

/-- Whether any position of the line carries a byte. -/
def hasBytes (b : LineBytes) : Bool :=
  b.any Option.isSome

/-- Keeps only the `n` positions from `pos` up (R67). -/
def cutToRange (pos n : Nat) (b : LineBytes) : LineBytes :=
  lineBytesAt pos ((b.drop pos).take n)

/-- The byte mask as a number: bit k set when position k is present (R198). -/
def maskOf : LineBytes → Nat
  | [] => 0
  | b :: bs => (if b.isSome then 1 else 0) + 2 * maskOf bs

/-- The data at each present position and zero elsewhere (R87). -/
def dataOf (b : LineBytes) : List Byte :=
  b.map (fun x => x.getD 0)

/-- Bytes by position from a byte mask and data (R156). -/
def unmask : Nat → List Byte → LineBytes
  | _, [] => []
  | m, b :: bs => (if m % 2 = 1 then some b else none) :: unmask (m / 2) bs

/-- The WRITEs, each within one line, that put `bytes` at consecutive addresses from `a` up, in ascending
address order (R91). -/
def writesAt (a : Addr) (bytes : List Byte) : List DownRequest :=
  (cutLines bytes.length a.toNat bytes).map fun p =>
    .write (lineOf (BitVec.ofNat 48 p.1)) (lineBytesAt (p.1 % 64) (p.2.map some))

/-- The one WRITE of the 8 bytes of a marker value to its marker word (R124, R156). -/
def markerWrite (a : Addr) (value : Word64) : DownRequest :=
  .write (lineOf a) (lineBytesAt (posOf a) ((leBytes 8 value.toNat).map some))

/-! ## The integrity code (Conventions, "Integrity code") -/

/-- One bit of the reflected CRC. -/
def crcBit (c : Word32) : Word32 :=
  if c.getLsbD 0 then (c >>> 1) ^^^ Config.crcPolynomial else c >>> 1

/-- One byte of the reflected CRC. -/
def crcByte (c : Word32) (b : Byte) : Word32 :=
  crcBit (crcBit (crcBit (crcBit (crcBit (crcBit (crcBit (crcBit (c ^^^ b.setWidth 32))))))))

/-- The CRC-32 of the Introduction. -/
def crc32 (bs : List Byte) : Word32 :=
  bs.foldl crcByte 0xFFFFFFFF#32 ^^^ 0xFFFFFFFF#32

/-! ## Records and pads (R85–R90, R198, R199) -/

/-- The length of the record of a context with `n` entries (R85). -/
def recordLength (n : Nat) : Nat := 96 + 80 * n

/-- What the header of a record is made of (R86). -/
def recordHeader (epoch : Word32) (o : Owner) (interfered : Bool) (m : CommitMarker) (sequence : Word64) (n : Nat) :
    List Byte :=
  leBytes 4 Config.recordMagic ++ leBytes 4 epoch.toNat ++ leBytes 8 sequence.toNat ++ leBytes 1 o.window.val ++
    leBytes 1 o.initiator.val ++ leBytes 2 n ++ leBytes 4 (recordLength n) ++
    leBytes 4 (if interfered then 1 else 0) ++ leBytes 4 o.openTag.toNat ++ leBytes 4 m.tag.toNat ++ leBytes 4 0 ++
    leBytes 8 m.address.toNat ++ leBytes 8 m.value.toNat ++ leBytes 8 0

/-- One entry of a record, made from a slot (R87). -/
def recordEntry (h : HeldSlot) : List Byte :=
  leBytes 8 h.line.toNat ++ leBytes 8 (maskOf h.bytes) ++ dataOf h.bytes

/-- The trailer of a record over its header and entries (R88, R89). -/
def recordTrailer (sequence : Word64) (n : Nat) (body : List Byte) : List Byte :=
  leBytes 4 Config.trailerMagic ++ leBytes 4 (recordLength n) ++ leBytes 8 sequence.toNat ++
    leBytes 4 (crc32 body).toNat ++ leBytes 12 0

/-- The record of a context from its slot list (R85). -/
def recordBytes (epoch : Word32) (o : Owner) (interfered : Bool) (m : CommitMarker) (sequence : Word64)
    (slots : List HeldSlot) : List Byte :=
  let body := recordHeader epoch o interfered m sequence slots.length ++ (slots.map recordEntry).flatten
  body ++ recordTrailer sequence slots.length body

/-- The 16 written bytes of a pad (R90, R199). -/
def padBytes (length : Nat) (sequence : Word64) : List Byte :=
  leBytes 4 Config.padMagic ++ leBytes 4 length ++ leBytes 8 sequence.toNat

/-- Whether the 64 header bytes of the record at ring offset `o` pass (R154). -/
def headerPasses (header : List Byte) (epoch : Word32) (expected : Word64) (o scanned ringSize : Nat) : Bool :=
  field header 4 4 = epoch.toNat && field header 8 8 = expected.toNat &&
    1 ≤ field header 18 2 && field header 18 2 ≤ 256 &&
    field header 20 4 = recordLength (field header 18 2) &&
    o + field header 20 4 ≤ ringSize && scanned + field header 20 4 ≤ ringSize &&
    field header 16 1 < 8

/-- Whether a whole record whose header passed passes its trailer checks (R154). -/
def trailerPasses (record : List Byte) : Bool :=
  let n := field record 18 2
  let t := 64 + 80 * n
  field record t 4 = Config.trailerMagic && field record (t + 8) 8 = field record 8 8 &&
    field record (t + 4) 4 = field record 20 4 && field record (t + 16) 4 = (crc32 (record.take t)).toNat

/-- Whether the 16 bytes at ring offset `o` are a pad to follow (R153). -/
def padFollowed (item : List Byte) (expected : Word64) (o scanned ringSize : Nat) : Bool :=
  field item 8 8 = expected.toNat && field item 4 4 = ringSize - o && scanned + field item 4 4 ≤ ringSize

/-- The home write of entry `k` of a record (R156). The line address is the low 48 bits of its field, which hold
all of it in every record the bridge writes (DEDUCED, assumption 17). -/
def replayWrite (record : List Byte) (k : Nat) : DownRequest :=
  let e := record.drop (64 + 80 * k)
  .write (BitVec.ofNat 48 (field e 0 8)) (unmask (field e 8 8) ((e.drop 16).take 64))

/-- The home writes of the entries of a record in entry order (R156). -/
def replayWrites (record : List Byte) : Nat → List DownRequest
  | 0 => []
  | n + 1 => replayWrites record n ++ [replayWrite record n]

/-! ## Anchors (R105, R199) -/

/-- The bytes an anchor's CRC covers. -/
def anchorBody (epoch : Word32) (generation : Word64) (log2 : Nat) (base : Addr) (tailOffset : Nat)
    (tailSequence : Word64) : List Byte :=
  leBytes 4 Config.anchorMagic ++ leBytes 4 epoch.toNat ++ leBytes 8 generation.toNat ++ leBytes 1 log2 ++
    leBytes 7 0 ++ leBytes 8 base.toNat ++ leBytes 8 tailOffset ++ leBytes 8 tailSequence.toNat ++ leBytes 76 0

/-- The 128 bytes of an anchor copy (R105). -/
def anchorBytes (epoch : Word32) (generation : Word64) (log2 : Nat) (base : Addr) (tailOffset : Nat)
    (tailSequence : Word64) : List Byte :=
  let body := anchorBody epoch generation log2 base tailOffset tailSequence
  body ++ leBytes 4 (crc32 body).toNat

/-- Whether the 128 bytes of a copy are a valid anchor of the geometry (R150). -/
def anchorValid (bs : List Byte) (log2 : Nat) (base : Addr) : Bool :=
  field bs 0 4 = Config.anchorMagic && field bs 124 4 = (crc32 (bs.take 124)).toNat &&
    field bs 16 1 = log2 && field bs 24 8 = base.toNat && field bs 32 8 < 2 ^ log2 && field bs 32 8 % 16 = 0

/-- The fields of a valid copy (R150). -/
def anchorFields (copy : AnchorCopy) (bs : List Byte) : ChosenAnchor :=
  { copy := copy, generation := BitVec.ofNat 64 (field bs 8 8), epoch := BitVec.ofNat 32 (field bs 4 4),
    tailOffset := field bs 32 8, tailSequence := BitVec.ofNat 64 (field bs 40 8) }

/-- The choice between the two copies (R150). -/
def chooseAnchor (copyA copyB : List Byte) (log2 : Nat) (base : Addr) : Option ChosenAnchor :=
  match anchorValid copyA log2 base, anchorValid copyB log2 base with
  | true, false => some (anchorFields .a copyA)
  | false, true => some (anchorFields .b copyB)
  | true, true => if field copyA 8 8 < field copyB 8 8 then some (anchorFields .b copyB) else some (anchorFields .a copyA)
  | false, false => none

/-! ## Marker values (R12, R198) -/

/-- The command code of a marker value: OPEN, COMMIT, ABORT, or unknown. -/
def markerCommand (value : Word64) : Option MarkerCommand :=
  match (value >>> 56).toNat with
  | 1 => some .openTxn
  | 2 => some .commitTxn
  | 3 => some .abortTxn
  | _ => none

/-- The signature field of a marker value. -/
def markerSignature (value : Word64) : BitVec 16 := (value >>> 40).setWidth 16

/-- The zero field of a marker value. -/
def markerZero (value : Word64) : Byte := (value >>> 32).setWidth 8

/-- The tag field of a marker value. -/
def markerTag (value : Word64) : Word32 := value.setWidth 32

/-! ## Codes and event words (R194, R197) -/

/-- The mode codes of MODE. -/
def Mode.code : Mode → Nat
  | .init => 0 | .recovering => 1 | .online => 2 | .draining => 3 | .drained => 4 | .faulted => 5

/-- Reason codes of TXN_FAILED and TXN_ORPHANED. -/
def FailReason.code : FailReason → Nat
  | .idle => 1 | .length => 2 | .conflict => 3 | .noSlot => 4 | .stall => 5 | .power => 6 | .journal => 7

/-- Reason codes of MARKER_REFUSED. -/
def MarkerRefusal.code : MarkerRefusal → Nat
  | .mode => 1 | .nested => 2 | .full => 3 | .noContext => 4

/-- Reason codes of MARKER_MALFORMED. -/
def MalformedDetail.code : MalformedDetail → Nat
  | .shape => 1 | .unknownCode => 2 | .signature => 3 | .nonzero => 4

/-- Reason codes of DOWNSTREAM_TIMEOUT. -/
def Port.code : Port → Nat
  | .ingress => 1 | .writer => 2 | .ring => 3 | .release => 4 | .recovery => 5

/-- Reason codes of JOURNAL_FAULT. -/
def JournalDetail.code : JournalDetail → Nat
  | .write => 1 | .flush => 2 | .anchorWrite => 3 | .anchorFlush => 4

/-- Reason codes of RELEASE_FAULT. -/
def ReleaseDetail.code : ReleaseDetail → Nat
  | .line => 1 | .marker => 2

/-- Reason codes of RECOVERY_FAULT. -/
def RecoveryDetail.code : RecoveryDetail → Nat
  | .noAnchor => 1 | .anchorRead => 2 | .scanRead => 3 | .replay => 4 | .close => 5

/-- The kind codes of R197. -/
def EventBody.kindCode : EventBody → Nat
  | .txnDurable .. => 1 | .txnRetired .. => 2 | .txnAborted .. => 3 | .txnFailed .. => 4 | .txnOrphaned .. => 5
  | .markerRefused .. => 6 | .markerMalformed .. => 7 | .requestTimeout .. => 8 | .downstreamTimeout .. => 9
  | .journalFault .. => 10 | .releaseFault .. => 11 | .recoveryDone .. => 12 | .recoveryFault .. => 13
  | .drainDone .. => 14 | .modeChange .. => 15

/-- The context field of an event (R188). -/
def EventBody.context? : EventBody → Option Nat
  | .txnDurable c .. => some c.val | .txnRetired c .. => some c.val | .txnAborted c .. => some c.val
  | .txnFailed c .. => some c.val | .txnOrphaned c .. => some c.val | .markerRefused c .. => c.map Fin.val
  | .markerMalformed .. => none | .requestTimeout .. => none | .downstreamTimeout .. => none
  | .journalFault .. => none | .releaseFault c .. => some c.val | .recoveryDone .. => none
  | .recoveryFault .. => none | .drainDone .. => none | .modeChange .. => none

/-- The initiator field of an event (R188). -/
def EventBody.initiator? : EventBody → Option Nat
  | .txnDurable _ i .. => some i.val | .txnRetired _ i .. => some i.val | .txnAborted _ i .. => some i.val
  | .txnFailed _ i .. => some i.val | .txnOrphaned _ i .. => some i.val | .markerRefused _ i .. => some i.val
  | .markerMalformed i .. => some i.val | .requestTimeout i .. => some i.val
  | .downstreamTimeout i .. => i.map Fin.val
  | .journalFault .. => none | .releaseFault _ i .. => some i.val | .recoveryDone .. => none
  | .recoveryFault .. => none | .drainDone .. => none | .modeChange .. => none

/-- The window field of an event (R188). -/
def EventBody.window? : EventBody → Option Nat
  | .txnDurable _ _ w .. => some w.val | .txnRetired _ _ w .. => some w.val | .txnAborted _ _ w _ => some w.val
  | .txnFailed _ _ w .. => some w.val | .txnOrphaned _ _ w _ => some w.val | .markerRefused _ _ w .. => some w.val
  | .markerMalformed _ w .. => some w.val | .requestTimeout _ w _ => some w.val | .downstreamTimeout .. => none
  | .journalFault .. => none | .releaseFault _ _ w .. => some w.val | .recoveryDone .. => none
  | .recoveryFault .. => none | .drainDone .. => none | .modeChange .. => none

/-- The sequence field of an event (R188). -/
def EventBody.sequence? : EventBody → Option Word64
  | .txnDurable _ _ _ q _ => some q | .txnRetired _ _ _ q _ => some q | .txnAborted .. => none
  | .txnFailed _ _ _ q .. => q | .txnOrphaned .. => none | .markerRefused .. => none | .markerMalformed .. => none
  | .requestTimeout .. => none | .downstreamTimeout .. => none | .journalFault q .. => q
  | .releaseFault _ _ _ q .. => some q | .recoveryDone q _ => some q | .recoveryFault q .. => q
  | .drainDone q => some q | .modeChange .. => none

/-- The reason field of an event, as its code (R188, R197). -/
def EventBody.reason? : EventBody → Option Nat
  | .txnDurable .. => none | .txnRetired .. => none | .txnAborted .. => none
  | .txnFailed _ _ _ _ r .. => some r.code | .txnOrphaned _ _ _ r => some r.code
  | .markerRefused _ _ _ r _ => some r.code | .markerMalformed _ _ d _ => some d.code | .requestTimeout .. => none
  | .downstreamTimeout _ p _ => some p.code | .journalFault _ d .. => some d.code
  | .releaseFault _ _ _ _ d _ => some d.code | .recoveryDone .. => none | .recoveryFault _ d .. => some d.code
  | .drainDone .. => none | .modeChange m _ => some m.code

/-- The address field of an event (R188). -/
def EventBody.address? : EventBody → Option Addr
  | .txnDurable .. => none | .txnRetired .. => none | .txnAborted .. => none | .txnFailed _ _ _ _ _ a _ => a
  | .txnOrphaned .. => none | .markerRefused _ _ _ _ a => some a | .markerMalformed _ _ _ a => some a
  | .requestTimeout _ _ a => some a | .downstreamTimeout _ _ a => a | .journalFault _ _ a _ => a
  | .releaseFault _ _ _ _ _ a => a | .recoveryDone .. => none | .recoveryFault _ _ a _ => a
  | .drainDone .. => none | .modeChange .. => none

/-- The count field of an event; MODE_CHANGE's is the code of the mode left (R188, R197). -/
def EventBody.count? : EventBody → Option Nat
  | .txnDurable _ _ _ _ n => some n | .txnRetired _ _ _ _ n => some n | .txnAborted _ _ _ n => some n
  | .txnFailed _ _ _ _ _ _ n => some n | .txnOrphaned .. => none | .markerRefused .. => none
  | .markerMalformed .. => none | .requestTimeout .. => none | .downstreamTimeout .. => none
  | .journalFault _ _ _ n => some n | .releaseFault .. => none | .recoveryDone _ n => some n
  | .recoveryFault _ _ _ n => n | .drainDone .. => none | .modeChange _ m => some m.code

/-- The presence bits of word 5, from bit 16 in the order of R197. -/
def EventBody.presence (b : EventBody) : Nat :=
  (if b.context?.isSome then 1 else 0) + 2 * (if b.initiator?.isSome then 1 else 0) +
    4 * (if b.window?.isSome then 1 else 0) + 8 * (if b.sequence?.isSome then 1 else 0) +
    16 * (if b.reason?.isSome then 1 else 0) + 32 * (if b.address?.isSome then 1 else 0) +
    64 * (if b.count?.isSome then 1 else 0)

/-- Word `i` of the event window (R197); NONE reads zero in every word. -/
def eventWord (w : Option Event) (i : Nat) : Word32 :=
  match w with
  | none => 0
  | some e =>
    let q := (e.body.sequence?.getD 0).toNat
    let a := (e.body.address?.getD 0).toNat
    match i with
    | 0 => BitVec.ofNat 32 (e.body.kindCode + 2 ^ 8 * e.body.reason?.getD 0 + 2 ^ 16 * e.body.initiator?.getD 0 +
        2 ^ 22 * e.body.window?.getD 0 + 2 ^ 25 * e.body.context?.getD 0)
    | 1 => e.timestamp
    | 2 => BitVec.ofNat 32 q
    | 3 => BitVec.ofNat 32 (q / 2 ^ 32)
    | 4 => BitVec.ofNat 32 a
    | 5 => BitVec.ofNat 32 (a / 2 ^ 32 + 2 ^ 16 * e.body.presence)
    | 6 => BitVec.ofNat 32 (e.body.count?.getD 0)
    | _ => 0

end Sys2Proof.Machine
end

