-- ==== Sys2Proof/Machine/Ops.lean ====
section
/-! DEFINITION. The operations that several blocks share: reading and writing the tables of the state, answers and
events, the waits of the head, discarding slots, failing contexts, mode changes and faults. -/

namespace Sys2Proof.Machine

/-! ## Reading the tables -/

/-- The context with an index (R17). -/
def State.ctx (s : State) (c : ContextIx) : Context := s.contexts[c]

/-- The window entry with an index (R1). -/
def State.window (s : State) (w : WindowIx) : Window := s.windows[w]

/-- The read tracking entry with a number (R66). -/
def State.trackEntry (s : State) (k : EntryNo) : Option TrackEntry := s.tracking[k]

/-- Whether a context is FREE. -/
def Context.isFree : Context → Bool
  | .free => true
  | _ => false

/-- Whether a context is OPEN. -/
def Context.isOpen : Context → Bool
  | .opened .. => true
  | _ => false

/-- Whether a context is committed: QUEUED, WRITING, DURABLE or RELEASING (R17). -/
def Context.isCommitted : Context → Bool
  | .queued .. | .writing .. | .durable .. | .releasing .. => true
  | _ => false

/-- The sequence of a context that carries one (R17). -/
def Context.sequence? : Context → Option Word64
  | .writing _ _ _ p _ | .durable _ _ _ p | .releasing _ _ _ p => some p.sequence
  | _ => none

/-- The line chain of a line, oldest first: its HELD slots in the order of allocation (R44, R45). -/
def State.chain (s : State) (line : Addr) : List HeldSlot :=
  s.hold.filter fun h => h.line = line

/-- The slot list of a context, in the order its lines were first written (R17, R45). -/
def State.slotList (s : State) (c : ContextIx) : List HeldSlot :=
  s.hold.filter fun h => h.owner = c

/-- The entry count of a context: the length of its slot list (R17, R48). -/
def State.entryCount (s : State) (c : ContextIx) : Nat := (s.slotList c).length

/-- The lowest number from `n` up that is not among `used`, looking at no more than the given count of numbers. -/
def lowestUnused (used : List Nat) : Nat → Nat → Option Nat
  | 0, _ => none
  | k + 1, n => if n ∈ used then lowestUnused used k (n + 1) else some n

/-- The FREE hold slot with the lowest number (R48). -/
def State.freeSlot (s : State) : Option SlotNo :=
  match lowestUnused (s.hold.map fun h => h.number.val) 512 0 with
  | some n => if h : n < 512 then some ⟨n, h⟩ else none
  | none => none

/-- The FREE context with the lowest index (R20). -/
def State.freeContext (s : State) : Option ContextIx :=
  Config.contexts.find? fun c => (s.ctx c).isFree

/-- Whether every context is FREE (R6). -/
def State.allFree (s : State) : Bool :=
  Config.contexts.all fun c => (s.ctx c).isFree

/-- The context the binding map gives a pair (R18). -/
def State.boundContext (s : State) (i : Initiator) (w : WindowIx) : Option ContextIx :=
  (s.bindings.find? fun b => b.initiator = i && b.window = w).map Binding.context

/-- The ring size in bytes (R104). -/
def State.ringSize (s : State) : Nat := 2 ^ s.settings.ringSizeLog2

/-- The memory address of a ring offset (R104). -/
def State.ringAddr (s : State) (offset : Nat) : Addr :=
  s.settings.journalBase + BitVec.ofNat 48 (Config.anchorPage + offset)

/-- The memory address of an anchor copy (R104). -/
def State.copyAddr (s : State) : AnchorCopy → Addr
  | .a => s.settings.journalBase
  | .b => s.settings.journalBase + BitVec.ofNat 48 Config.anchorBytes

/-! ## The output lines -/

/-- The DRAINED output (R186). -/
def State.drainedPin (s : State) : Bool := s.mode = .drained

/-- The IRQ output (R191). -/
def State.irqPin (s : State) : Bool :=
  (s.events.entries ≠ [] && s.settings.irqEnable) || s.mode = .faulted

/-! ## Writing the tables -/

/-- Puts a context into the table. -/
def State.setCtx (s : State) (c : ContextIx) (x : Context) : State :=
  { s with contexts := s.contexts.set c x }

/-- Puts an entry into the read tracking table. -/
def State.setTrack (s : State) (k : EntryNo) (x : Option TrackEntry) : State :=
  { s with tracking := s.tracking.set k x }

/-- Makes a binding (R18). -/
def State.bind (s : State) (i : Initiator) (w : WindowIx) (c : ContextIx) : State :=
  { s with bindings := s.bindings ++ [⟨i, w, c⟩] }

/-- Removes the binding of a pair (R18). -/
def State.unbind (s : State) (i : Initiator) (w : WindowIx) : State :=
  { s with bindings := s.bindings.filter fun b => !(b.initiator = i && b.window = w) }

/-- Sends an answer (R162). -/
def State.answer (s : State) (r : Requester) (code : AnswerCode) : State :=
  { s with upOut := s.upOut ++ [⟨r, code⟩] }

/-- Sends the answer of a COMMIT whose response is pending, if one is (R35). -/
def State.answerPending (s : State) (r : Option Requester) (code : AnswerCode) : State :=
  match r with
  | some q => s.answer q code
  | none => s

/-- Pushes an event, or drops it and sets the overflow flag when 64 are held (R187). -/
def State.push (s : State) (b : EventBody) : State :=
  if s.events.entries.length < Config.eventDepth then
    { s with events := { s.events with entries := s.events.entries ++ [⟨s.timebase.setWidth 32, b⟩] } }
  else
    { s with events := { s.events with overflow := true } }

/-- Pushes an event where its enable is on (R187). -/
def State.pushIf (s : State) (enable : Bool) (b : EventBody) : State :=
  if enable then s.push b else s

/-! ## The head -/

/-- The request leaves the head: the next request becomes the head, with no wait, timer or walk (R163, R167). -/
def State.leaveHead (s : State) : State :=
  { s with ingress := { s.ingress with queue := s.ingress.queue.tail, wait := none, timer := none, walk := none } }

/-- Ends the wait of the head where it is one that the event at hand ends; the stall timer runs on (R167). The
evaluation that follows is the next HEAD_EVALUATION (DEDUCED, assumption 7). -/
def State.endWait (s : State) (ended : HeadWait → Bool) : State :=
  match s.ingress.wait with
  | some w => if ended w then { s with ingress := { s.ingress with wait := none } } else s
  | none => s

/-- The waits that a slot going FREE ends (R52, R60, R71). -/
def HeadWait.onSlotFree : HeadWait → Bool
  | .mode _ => false
  | .slot .. => true
  | .bare .. => true
  | .tracking _ => true

/-- The wait that a tracking entry going FREE ends (R71). -/
def HeadWait.onEntryFree : HeadWait → Bool
  | .tracking _ => true
  | _ => false

/-- The mode wait (R144). -/
def HeadWait.onMode : HeadWait → Bool
  | .mode _ => true
  | _ => false

/-- The slot wait of a context, which its leaving OPEN ends (R52). -/
def HeadWait.onContext (c : ContextIx) : HeadWait → Bool
  | .slot d _ => d = c
  | _ => false

/-- Puts the head in a timed wait; the stall timer starts at the first one (R167). -/
def State.enterWait (s : State) (w : HeadWait) (walk : Option Walk) : State :=
  { s with ingress := { s.ingress with
      wait := some w
      timer := some (s.ingress.timer.getD ⟨s.timebase, s.settings.stallTimeout⟩)
      walk := walk } }

/-! ## Slots leaving the hold buffer (R61, R62) -/

/-- Takes every slot of a context out of the hold buffer. -/
def State.dropSlots (s : State) (c : ContextIx) : State :=
  { s with hold := s.hold.filter fun h => h.owner ≠ c }

/-- Discards a context's slots; each slot that goes FREE ends a wait of the head that depends on slots (R61). -/
def State.discard (s : State) (c : ContextIx) : State :=
  if s.slotList c = [] then s else (s.dropSlots c).endWait HeadWait.onSlotFree

/-! ## Failure of a context (R27) -/

/-- The walk waiting at the head records the reason for which a context it placed pieces into failed; the first
reason recorded stands (R55; DEDUCED, assumption 8). -/
def State.noteWalkFailure (s : State) (c : ContextIx) (r : FailReason) : State :=
  match s.ingress.walk with
  | some k =>
    if c ∈ k.placed ∧ k.failed = none then
      { s with ingress := { s.ingress with walk := some { k with failed := some r } } }
    else s
  | none => s

/-- Fails an OPEN context; any other context is left as it is (R27, R28). -/
def State.failContext (s : State) (c : ContextIx) (r : FailReason) (line : Option Addr) : State :=
  match s.ctx c with
  | .opened o _ _ _ =>
    ((((s.discard c).endWait (HeadWait.onContext c)).noteWalkFailure c r).setCtx c
      (.failed o r s.timebase (some s.settings.orphanTimeout))).push
      (.txnFailed c o.initiator o.window none r line (s.entryCount c))
  | _ => s

/-- Fails every OPEN context in ascending index (R37, R38, R39). -/
def State.failOpen (s : State) (r : FailReason) : State :=
  Config.contexts.foldl (fun s c => s.failContext c r none) s

/-! ## The mode (R138, R139) -/

/-- Changes the mode: MODE_CHANGE is pushed, and the mode wait ends where the new mode ends it (R139, R144). -/
def State.setMode (s : State) (m : Mode) : State :=
  let t := { s.push (.modeChange m s.mode) with mode := m }
  match m with
  | .online | .draining | .faulted => t.endWait HeadWait.onMode
  | .init | .recovering | .drained => t

/-! ## Stopping the blocks -/

/-- Stops the journal writer: its requests not yet granted are withdrawn and the space request is cleared (R82,
R108). -/
def State.stopWriter (s : State) : State :=
  { s with
    writer := { s.writer with
      active := false
      openBatch := s.writer.openBatch.map fun b => { b with toIssue := [] }
      flight := s.writer.flight.map fun f => { f with presented := false } }
    ring := { s.ring with spaceRequest := false } }

/-- Halts the release engine: its write not yet granted is withdrawn (R121). -/
def State.haltRelease (s : State) : State :=
  { s with release := { s.release with active := false, presented := none } }

/-- Abandons the anchor update in flight, withdrawing its requests not yet granted (R118). -/
def State.abandonUpdate (s : State) : State :=
  { s with ring := { s.ring with
      update := .idle, snapshot := none, closing := false, toIssue := [], writesAcked := 0 } }

/-- Abandons the anchor update and clears the again flag and the space request (R118, R119). -/
def State.stopRing (s : State) : State :=
  let t := s.abandonUpdate
  { t with ring := { t.ring with again := false, spaceRequest := false } }

/-- A fault reported to the mode controller: the mode becomes FAULTED unless it is already, and the anchor update in
flight is abandoned (R177, R118). -/
def State.enterFaulted (s : State) : State :=
  let t := if s.mode = .faulted then s else s.setMode .faulted
  t.stopRing

/-! ## The journal fault (R38, R97) -/

/-- Frees a QUEUED or WRITING context on a journal fault: its slots are discarded, its pending response answered
FAILED/JOURNAL, and TXN_FAILED pushed (R38). -/
def State.freeOnFault (s : State) (c : ContextIx) : State :=
  match s.ctx c with
  | .queued o _ _ p =>
    ((((s.discard c).answerPending p (.failed (.context .journal))).setCtx c .free).push
      (.txnFailed c o.initiator o.window none .journal none (s.entryCount c)))
  | .writing o _ _ pl p =>
    ((((s.discard c).answerPending p (.failed (.context .journal))).setCtx c .free).push
      (.txnFailed c o.initiator o.window (some pl.sequence) .journal none (s.entryCount c)))
  | _ => s

/-- The contexts of the written but unflushed records in ascending sequence: the flush in flight, then the open
batch (R93). -/
def State.unflushed (s : State) : List ContextIx :=
  ((s.writer.flight.map RecordFlush.contexts).getD []) ++ s.writer.openBatch.map BatchRecord.context

/-- The QUEUED and WRITING contexts in the order a journal fault frees them (R38). -/
def State.sealing (s : State) : List ContextIx := s.unflushed ++ s.writer.commitQueue

/-- A journal fault, whatever block reports it (R97). -/
def State.journalFault (s : State) (detail : JournalDetail) (address : Option Addr) (sequence : Option Word64) :
    State :=
  let freed := s.sealing
  let t := ((s.push (.journalFault sequence detail address freed.length)).stopWriter).enterFaulted
  let t := freed.foldl State.freeOnFault t
  let t := { t with writer := { t.writer with commitQueue := [], openBatch := [], flight := none } }
  t.failOpen .journal

end Sys2Proof.Machine
end

