-- ==== Sys2Proof/Machine/Windows.lean ====
section
/-! DEFINITION. Cutting a request into line pieces, classifying them against the window table, and recognising marker
writes (chapter 1, R161, R164). -/

namespace Sys2Proof.Machine

/-! ## Line pieces (R164) -/

/-- Whether a request's range passes the address space (R161). -/
def passesAddressSpace (r : UpRequest) : Bool :=
  Config.addressSpace < r.addr.toNat + r.length

/-- The enabled bytes of a request's range; a READ has none. -/
def requestBytes (r : UpRequest) : List (Option Byte) :=
  match r.kind with
  | .read n => List.replicate n none
  | .write bs => bs

/-- The parts of a request by line: the address of a part's first byte, and its enabled bytes (R164). -/
def pieces (r : UpRequest) : List (Addr × List (Option Byte)) :=
  (cutLines r.length r.addr.toNat (requestBytes r)).map fun p => (BitVec.ofNat 48 p.1, p.2)

/-- The enabled bytes of a piece by position of its line. -/
def pieceBytes (p : Addr × List (Option Byte)) : LineBytes := lineBytesAt (posOf p.1) p.2

/-! ## Matching (R3, R4) -/

/-- Whether an address matches a window entry (R3). -/
def Window.matchesAddr (e : Window) (a : Addr) : Bool :=
  e.mode ≠ .off && (a &&& e.mask) = (e.base &&& e.mask)

/-- The journal window an address lies in: the selected entry is the matching one with the lowest index, and a PASS
entry puts the address outside every journal window (R4). -/
def State.journalWindow (s : State) (a : Addr) : Option WindowIx :=
  match Config.windows.find? fun w => (s.window w).matchesAddr (lineOf a) with
  | some w => if (s.window w).mode = .journal then some w else none
  | none => none

/-- The first piece of a request in a journal window, with that window (R65, R145). -/
def State.firstJournalPiece (s : State) (r : UpRequest) : Option (WindowIx × Addr) :=
  (pieces r).findSome? fun p => (s.journalWindow p.1).map fun w => (w, p.1)

/-! ## Marker words (R10–R13) -/

/-- The journal window of which an 8-byte aligned word is a marker word (R10). -/
def State.markerWindow (s : State) (a : Addr) : Option WindowIx :=
  match s.journalWindow a with
  | some w => if (a &&& (s.window w).markerMask) = (s.window w).markerPattern then some w else none
  | none => none

/-- The 8-byte aligned words that `n` bytes from `a` up touch, in ascending address order (R11). -/
def touchedWords (a : Addr) (n : Nat) : List Addr :=
  (List.range ((posOf a % 8 + n + 7) / 8)).map fun i => wordOf a + BitVec.ofNat 48 (8 * i)

/-- The lowest marker word a request touches, with its window (R11, R14). -/
def State.touchedMarker (s : State) (r : UpRequest) : Option (WindowIx × Addr) :=
  (touchedWords r.addr r.length).findSome? fun a => (s.markerWindow a).map fun w => (w, a)

/-- The eight bytes of a write that is 8 bytes long, aligned and fully enabled (R11). -/
def exactValue (r : UpRequest) : Option Word64 :=
  match r.kind with
  | .read _ => none
  | .write bs =>
    if bs.length = 8 ∧ r.addr.toNat % 8 = 0 ∧ bs.all Option.isSome then some (BitVec.ofNat 64 (leNat (dataOf bs))) else none

/-- The checks of R13 in their order. A READ touches nothing (R11). -/
def State.markerCheck (s : State) (r : UpRequest) : MarkerCheck :=
  match r.kind with
  | .read _ => .none
  | .write _ =>
    match s.touchedMarker r with
    | Option.none => .none
    | some (w, a) =>
      match exactValue r with
      | Option.none => .malformed w a .shape
      | some v =>
        match markerCommand v with
        | Option.none => .malformed w a .unknownCode
        | some cmd =>
          if markerSignature v ≠ (s.window w).signature then .malformed w a .signature
          else if markerZero v ≠ 0 then .malformed w a .nonzero
          else .marker w a cmd v

end Sys2Proof.Machine
end

