-- ==== Sys2Proof/Machine/Contexts.lean ====
section
/-! DEFINITION. The context manager: what a binding names, the marker commands in every state, and the idle and orphan
timers (chapter 2). -/

namespace Sys2Proof.Machine

/-- What the binding of a pair names (R18). -/
def State.bound (s : State) (i : Initiator) (w : WindowIx) : Bound :=
  match s.boundContext i w with
  | none => .unbound
  | some c =>
    match s.ctx c with
    | .opened .. => .opened c
    | .failed _ r _ _ => .failed c r
    | _ => .unbound

/-! ## Marker commands (R19–R24) -/

/-- Refuses a marker command: it is answered REFUSED and MARKER_REFUSED is pushed (R19). -/
def State.refuseMarker (s : State) (m : MarkerWrite) (r : MarkerRefusal) (c : Option ContextIx) : State :=
  (s.answer m.requester (.refused (.marker r))).push
    (.markerRefused c m.requester.initiator m.window r m.address)

/-- Carries out an OPEN marker (R20). -/
def State.openMarker (s : State) (m : MarkerWrite) : State :=
  if s.mode ≠ .online then s.refuseMarker m .mode none
  else
    match s.boundContext m.requester.initiator m.window with
    | some c => s.refuseMarker m .nested (some c)
    | none =>
      match s.freeContext with
      | none => s.refuseMarker m .full none
      | some c =>
        ((s.setCtx c (.opened ⟨m.requester.initiator, m.window, markerTag m.value⟩ false s.timebase
          ((s.window m.window).idleTimeout ≠ 0))).bind m.requester.initiator m.window c).answer m.requester (.ok [])

/-- Puts a context at the tail of the commit queue (R23). -/
def State.enqueueCommit (s : State) (c : ContextIx) : State :=
  { s with writer := { s.writer with commitQueue := s.writer.commitQueue ++ [c] } }

/-- Makes an OPEN context that holds lines QUEUED and answers the COMMIT by the ack mode of the window (R23, R33, R34). -/
def State.commitQueued (s : State) (m : MarkerWrite) (c : ContextIx) (o : Owner) (interfered : Bool) : State :=
  let cm : CommitMarker := ⟨markerTag m.value, m.address, m.value⟩
  match (s.window m.window).ackMode with
  | .early =>
    (((s.setCtx c (.queued o interfered cm none)).unbind m.requester.initiator m.window).enqueueCommit c).answer
      m.requester (.ok [])
  | .durable =>
    ((s.setCtx c (.queued o interfered cm (some m.requester))).unbind m.requester.initiator m.window).enqueueCommit c

/-- Carries out a COMMIT marker (R21, R22, R23). -/
def State.commitMarker (s : State) (m : MarkerWrite) : State :=
  match s.boundContext m.requester.initiator m.window with
  | none => s.refuseMarker m .noContext none
  | some c =>
    match s.ctx c with
    | .failed _ r _ _ =>
      ((s.setCtx c .free).unbind m.requester.initiator m.window).answer m.requester (.failed (.context r))
    | .opened o interfered _ _ =>
      if s.entryCount c = 0 then
        ((s.setCtx c .free).unbind m.requester.initiator m.window).answer m.requester (.ok [])
      else s.commitQueued m c o interfered
    | _ => s.refuseMarker m .noContext none

/-- Carries out an ABORT marker (R24). -/
def State.abortMarker (s : State) (m : MarkerWrite) : State :=
  match s.boundContext m.requester.initiator m.window with
  | none => s.refuseMarker m .noContext none
  | some c =>
    match s.ctx c with
    | .failed _ _ _ _ => ((s.setCtx c .free).unbind m.requester.initiator m.window).answer m.requester (.ok [])
    | .opened o _ _ _ =>
      ((((s.discard c).setCtx c .free).unbind m.requester.initiator m.window).answer m.requester (.ok [])).pushIf
        (s.window m.window).abortedEvent (.txnAborted c o.initiator o.window (s.entryCount c))
    | _ => s.refuseMarker m .noContext none

/-- Carries out a marker command (R15). -/
def State.marker (s : State) (m : MarkerWrite) (cmd : MarkerCommand) : State :=
  match cmd with
  | .openTxn => s.openMarker m
  | .commitTxn => s.commitMarker m
  | .abortTxn => s.abortMarker m

/-! ## Accepted data writes (R25) and the interfered flag (R59) -/

/-- An accepted data write sets the last activity time, from which the idle timer restarts (R25). -/
def State.touch (s : State) (c : ContextIx) : State :=
  match s.ctx c with
  | .opened o f _ t => s.setCtx c (.opened o f s.timebase t)
  | _ => s

/-- Sets the interfered flag of an OPEN context (R59). -/
def State.setInterfered (s : State) (c : ContextIx) : State :=
  match s.ctx c with
  | .opened o _ a t => s.setCtx c (.opened o true a t)
  | _ => s

/-! ## Timers (R29, R31) -/

/-- Whether a timer that started at `start` with a length in microseconds has expired: the timebase, compared with its
whole value, has reached the start plus the length ("Time base"). -/
def State.expired (s : State) (start : Word64) (length : Nat) : Bool :=
  start.toNat + length ≤ s.timebase.toNat

/-- Whether the idle timer of a context expires now (R29). -/
def State.idleDue (s : State) (c : ContextIx) : Bool :=
  match s.ctx c with
  | .opened o _ last true =>
    (s.window o.window).idleTimeout ≠ 0 && s.expired last (s.window o.window).idleTimeout.toNat
  | _ => false

/-- The expiry of an idle timer: the context fails with IDLE. An expiry that is not due does not happen (R29). -/
def State.idleExpiry (s : State) (c : ContextIx) : State :=
  if s.idleDue c then s.failContext c .idle none else s

/-- The expiry of an orphan timer: the binding is removed, the context goes FREE and TXN_ORPHANED is pushed. An expiry
that is not due does not happen (R31). -/
def State.orphanExpiry (s : State) (c : ContextIx) : State :=
  match s.ctx c with
  | .failed o r since (some ms) =>
    if s.expired since (1000 * ms) then
      ((s.setCtx c .free).unbind o.initiator o.window).push (.txnOrphaned c o.initiator o.window r)
    else s
  | _ => s

/-- IDLE_TIMER_EXPIRY (R29). -/
def execIdleTimerExpiry (c : ContextIx) (s : State) : Host.Outcome State Fault Refusal :=
  .next (s.idleExpiry c)

/-- ORPHAN_TIMER_EXPIRY (R31). -/
def execOrphanTimerExpiry (c : ContextIx) (s : State) : Host.Outcome State Fault Refusal :=
  .next (s.orphanExpiry c)

end Sys2Proof.Machine
end

