-- ==== Sys2Proof/Machine/Walk.lean ====
section
/-! DEFINITION. The hold buffer's walk over the pieces of a data write, and the answers of the ingress side that it
leads to (chapter 3, R165 step 6, R166, R169). -/

namespace Sys2Proof.Machine

/-! ## Handing over (R166, R169) -/

/-- Hands the downstream requests of the head over, with one pending answer that counts them (R166, R169). -/
def State.handOver (s : State) (r : Requester) (requests : List DownRequest) : State :=
  { s with ingress := { s.ingress with
      handOver := s.ingress.handOver ++ requests.map fun q => ⟨q, .pendingAnswer s.ingress.nextAnswer, false⟩
      answers := s.ingress.answers ++ [⟨s.ingress.nextAnswer, r, requests.length, false⟩]
      nextAnswer := s.ingress.nextAnswer + 1 } }

/-- The initiator and request tag of an upstream request. -/
def requesterOf (r : UpRequest) : Requester := ⟨r.initiator, r.tag⟩

/-! ## Placing a piece (R46–R52) -/

/-- Merges a piece into the slot of a context on a line (R47). -/
def State.mergeSlot (s : State) (number : SlotNo) (bytes : LineBytes) : State :=
  { s with hold := s.hold.map fun h => if h.number = number then { h with bytes := layOver h.bytes bytes } else h }

/-- Allocates a slot: it becomes HELD behind every slot held before it, and so stands last on its line chain and on its
owner's slot list (R48). -/
def State.allocateSlot (s : State) (n : SlotNo) (line : Addr) (bytes : LineBytes) (c : ContextIx) : State :=
  { s with hold := s.hold ++ [⟨n, line, bytes, c⟩] }

/-- A piece that needs a new slot: the length check, then the free slot check (R48, R51, R52). -/
def State.placeNew (s : State) (c : ContextIx) (w : WindowIx) (line : Addr) (bytes : LineBytes) : Settled × State :=
  if (s.window w).lengthLimit < s.entryCount c + 1 then (.failed .length, s.failContext c .length (some line))
  else
    match s.freeSlot with
    | some n => (.placed (some c), (s.allocateSlot n line bytes c).touch c)
    | none =>
      match (s.window w).fullPolicy with
      | .fail => (.failed .noSlot, s.failContext c .noSlot (some line))
      | .stall => (.waiting (.slot c line), s)

/-- A piece with an enabled byte whose binding names an OPEN context, decided by the chain of its line (R46). -/
def State.placePiece (s : State) (c : ContextIx) (w : WindowIx) (line : Addr) (bytes : LineBytes) : Settled × State :=
  match (s.chain line).getLast? with
  | some h =>
    if h.owner = c then (.placed (some c), (s.mergeSlot h.number bytes).touch c)
    else if (s.ctx h.owner).isOpen then (.failed .conflict, s.failContext c .conflict (some line))
    else s.placeNew c w line bytes
  | none => s.placeNew c w line bytes

/-- Settles one piece of a data write (R54, R26, R50, R58). -/
def State.settlePiece (s : State) (i : Initiator) (p : Addr × List (Option Byte)) : Settled × State :=
  let line := lineOf p.1
  let bytes := pieceBytes p
  match s.journalWindow p.1 with
  | none => (.cleared ⟨line, bytes, false⟩, s)
  | some w =>
    match s.bound i w with
    | .failed _ r => (.failed r, s)
    | .opened c => if hasBytes bytes then s.placePiece c w line bytes else (.placed none, s)
    | .unbound =>
      if hasBytes bytes && (s.chain line).any (fun h => (s.ctx h.owner).isCommitted) then (.waiting (.bare w p.1), s)
      else (.cleared ⟨line, bytes, true⟩, s)

/-- Takes the pieces in ascending address order, settling each before the next (R54). -/
def walkPieces (i : Initiator) : List (Addr × List (Option Byte)) → Walk → State → WalkEnd × Walk × State
  | [], k, s => (.complete, k, s)
  | p :: ps, k, s =>
    match s.settlePiece i p with
    | (.cleared q, t) => walkPieces i ps { k with settled := k.settled + 1, cleared := k.cleared ++ [q] } t
    | (.placed none, t) => walkPieces i ps { k with settled := k.settled + 1 } t
    | (.placed (some c), t) => walkPieces i ps { k with settled := k.settled + 1, placed := k.placed ++ [c] } t
    | (.failed r, t) => (.stopped r, k, t)
    | (.waiting w, t) => (.paused w, k, t)

/-- The walk of a request that has not been taken yet. -/
def Walk.fresh : Walk := { settled := 0, cleared := [], placed := [], failed := none }

/-! ## The end of a walk (R56, R57) -/

/-- An issued bare piece sets the interfered flag of the open slot's owner on its line, if there is one (R56, R59). -/
def State.interfere (s : State) (p : ClearedPiece) : State :=
  if p.bare then
    match (s.chain p.line).getLast? with
    | some h => s.setInterfered h.owner
    | none => s
  else s

/-- The walk has completed: the cleared pieces with an enabled byte are handed over in ascending address order, and the
request is answered at once where there is none (R56). -/
def State.completeWalk (s : State) (r : Requester) (k : Walk) : State :=
  let issued := k.cleared.filter fun p => hasBytes p.bytes
  let t := issued.foldl State.interfere s
  if issued = [] then (t.answer r (.ok [])).leaveHead
  else (t.handOver r (issued.map fun p => .write p.line p.bytes)).leaveHead

/-- Ends the request at the head with one answer; nothing of it is issued (R57). -/
def State.endRequest (s : State) (r : Requester) (code : AnswerCode) : State :=
  (s.answer r code).leaveHead

/-- Evaluates a data write at the head: the walk starts, or resumes at the piece at which it paused unless a context it
placed pieces into has failed meanwhile (R54, R55). -/
def State.evaluateWrite (s : State) (r : UpRequest) : State :=
  let k := s.ingress.walk.getD Walk.fresh
  match k.failed with
  | some f => s.endRequest (requesterOf r) (.failed (.context f))
  | none =>
    match walkPieces r.initiator ((pieces r).drop k.settled) k s with
    | (.complete, k', t) => t.completeWalk (requesterOf r) k'
    | (.stopped f, _, t) => t.endRequest (requesterOf r) (.failed (.context f))
    | (.paused w, k', t) => t.enterWait w (some k')

end Sys2Proof.Machine
end

