-- ==== Sys2Proof/Machine/Reads.lean ====
section
/-! DEFINITION. The read forwarder: overlay snapshots, taking window reads, and completing them (chapter 4). -/

namespace Sys2Proof.Machine

/-! ## The overlay snapshot (R67, R68) -/

/-- Whether a slot of a chain is laid into a reader's overlay: a committed slot, or the open slot of the context bound to
the reader in the line's window (R67, R68). -/
def State.seenBy (s : State) (i : Initiator) (w : WindowIx) (h : HeldSlot) : Bool :=
  (s.ctx h.owner).isCommitted || ((s.ctx h.owner).isOpen && s.boundContext i w = some h.owner)

/-- The bytes the slots of a line give a reader, later slots of the chain over earlier ones (R67, R68). -/
def State.seenBytes (s : State) (i : Initiator) (w : WindowIx) (line : Addr) : LineBytes :=
  ((s.chain line).filter (s.seenBy i w)).foldl (fun acc h => layOver acc h.bytes) emptyLine

/-- The overlay of one piece of a read: none for a pass-through piece and for a line that gives no byte inside the read's
range (R67). -/
def State.pieceOverlay (s : State) (i : Initiator) (p : Addr × List (Option Byte)) : Option Overlay :=
  match s.journalWindow p.1 with
  | none => none
  | some w =>
    let bytes := cutToRange (posOf p.1) p.2.length (s.seenBytes i w (lineOf p.1))
    if hasBytes bytes then some ⟨lineOf p.1, bytes⟩ else none

/-- The overlays of a read, in ascending line address (R66, R67). -/
def State.overlays (s : State) (r : UpRequest) : List Overlay :=
  (pieces r).filterMap (s.pieceOverlay r.initiator)

/-! ## Taking a read (R69–R71) -/

/-- The FREE tracking entry with the lowest number (R70). -/
def State.freeEntry (s : State) : Option EntryNo :=
  match lowestUnused (((List.range 32).filter fun k => (s.tracking[k]?.getD none).isSome)) 32 0 with
  | some k => if h : k < 32 then some ⟨k, h⟩ else none
  | none => none

/-- Hands the READ of a tracking entry over (R70). -/
def State.handOverTracked (s : State) (k : EntryNo) (request : DownRequest) : State :=
  { s with ingress := { s.ingress with handOver := s.ingress.handOver ++ [⟨request, .tracking k, false⟩] } }

/-- Evaluates a read at the head (R65, R69, R70, R71). -/
def State.evaluateRead (s : State) (r : UpRequest) : State :=
  let request := DownRequest.read r.addr r.length
  match s.firstJournalPiece r with
  | none => (s.handOver (requesterOf r) [request]).leaveHead
  | some (w, _) =>
    if s.overlays r = [] then (s.handOver (requesterOf r) [request]).leaveHead
    else
      match s.freeEntry with
      | some k =>
        ((s.setTrack k (some ⟨requesterOf r, r.addr, r.length, s.overlays r⟩)).handOverTracked k request).leaveHead
      | none => s.enterWait (.tracking w) none

/-! ## Completion (R73, R74) -/

/-- The byte an overlay list lays at an address, if one does. -/
def overlayByte (os : List Overlay) (a : Nat) : Option Byte :=
  match os.find? fun o => o.line.toNat = a / 64 * 64 with
  | some o => (o.bytes[a % 64]?).getD none
  | none => none

/-- Lays the overlays over the returned bytes, the first of which stands at address `a` (R73). -/
def mergeOverlays (os : List Overlay) : Nat → List Byte → List Byte
  | _, [] => []
  | a, b :: bs => (overlayByte os a).getD b :: mergeOverlays os (a + 1) bs

/-- The READ of a tracking entry has ended: the read is answered and the entry goes FREE (R73, R74). -/
def State.completeRead (s : State) (k : EntryNo) (r : DownResponse) : State :=
  match s.trackEntry k with
  | none => s
  | some e =>
    let code := match r with
      | .ack data => AnswerCode.ok (mergeOverlays e.overlays e.addr.toNat data)
      | .error => .memoryError
    ((s.answer e.requester code).setTrack k none).endWait HeadWait.onEntryFree

end Sys2Proof.Machine
end

