-- ==== Sys2Proof/Machine/Ingress.lean ====
section
/-! DEFINITION. The ingress queue: accepting requests, evaluating the head, and the expiry of its stall timer
(R161–R170). -/

namespace Sys2Proof.Machine

/-- Accepts a request at the tail of the queue while it holds fewer than 8; at 8 the port withholds acceptance and the
request is not taken (R163). -/
def State.accept (s : State) (r : UpRequest) : State :=
  if s.ingress.queue.length < Config.ingressDepth then
    { s with ingress := { s.ingress with queue := s.ingress.queue ++ [r] } }
  else s

/-- Refuses a MALFORMED request whole (R14). -/
def State.refuseMalformed (s : State) (r : UpRequest) (w : WindowIx) (a : Addr) (d : MalformedDetail) : State :=
  ((s.answer (requesterOf r) (.refused .malformed)).push (.markerMalformed r.initiator w d a)).leaveHead

/-- What the mode wait of a request holds for its expiry (R145). The expiry is no evaluation, so it reports the marker or data,
window and address found when the wait was entered, even where the window table has been written since (R5 and R8 speak of
evaluations alone; DESIGN CHOICE, assumption 31). A read's REQUEST_TIMEOUT carries the window of its first piece in a journal
window: R145 gives its address and R188 a window, but not which of several (DESIGN CHOICE, assumption 32). -/
def heldRequest (check : MarkerCheck) (first : WindowIx × Addr) (r : UpRequest) : HeldRequest :=
  match check with
  | .marker w a cmd _ => .marker cmd w a
  | _ =>
    match r.kind with
    | .read _ => .data first.1 r.addr
    | .write _ => .data first.1 first.2

/-- Evaluates the request at the head: the address check, the classification, and the step of R165 that ends the
evaluation. -/
def State.evaluate (s : State) (r : UpRequest) : State :=
  if passesAddressSpace r then s.endRequest (requesterOf r) .memoryError
  else
    let check := s.markerCheck r
    match check with
    | .malformed w a d => s.refuseMalformed r w a d
    | _ =>
      match s.firstJournalPiece r, s.mode with
      | some first, .init => s.enterWait (.mode (heldRequest check first r)) s.ingress.walk
      | some first, .recovering => s.enterWait (.mode (heldRequest check first r)) s.ingress.walk
      | _, _ =>
        match check with
        | .marker w a cmd v => (s.marker ⟨requesterOf r, w, a, v⟩ cmd).leaveHead
        | _ =>
          match r.kind with
          | .read _ => s.evaluateRead r
          | .write _ => s.evaluateWrite r

/-- Evaluates the head when it is held neither by a timed wait nor by the arbiter wait (R165, R166). -/
def State.evaluateHead (s : State) : State :=
  match s.ingress.queue, s.ingress.wait, s.ingress.handOver with
  | r :: _, none, [] => s.evaluate r
  | _, _, _ => s

/-! ## The stall timer (R167, R168) -/

/-- Ends a mode wait that has expired (R145). -/
def State.expireModeWait (s : State) (r : UpRequest) (held : HeldRequest) : State :=
  match held with
  | .marker cmd w a =>
    let reason := match cmd with
      | .openTxn => MarkerRefusal.mode
      | .commitTxn | .abortTxn => MarkerRefusal.noContext
    ((s.answer (requesterOf r) (.refused (.marker reason))).push (.markerRefused none r.initiator w reason a)).leaveHead
  | .data w a => ((s.answer (requesterOf r) .timeout).push (.requestTimeout r.initiator w a)).leaveHead

/-- The reason a request whose slot wait expired is answered FAILED with: the one its walk recorded, or else the one its
context is FAILED with (R53, R55). -/
def State.stallReason (s : State) (c : ContextIx) : FailReason :=
  match s.ingress.walk with
  | some ⟨_, _, _, some f⟩ => f
  | _ =>
    match s.ctx c with
    | .failed _ f _ _ => f
    | _ => .stall

/-- Ends a slot wait that has expired: the context fails STALL if it is OPEN, and the request is answered FAILED (R53). -/
def State.expireSlotWait (s : State) (r : UpRequest) (c : ContextIx) (line : Addr) : State :=
  let t := s.failContext c .stall (some line)
  t.endRequest (requesterOf r) (.failed (.context (t.stallReason c)))

/-- Ends the request at the head by the rule of the wait that holds it (R168). -/
def State.expireWait (s : State) (r : UpRequest) (w : HeadWait) : State :=
  match w with
  | .mode held => s.expireModeWait r held
  | .slot c line => s.expireSlotWait r c line
  | .bare w a => ((s.answer (requesterOf r) .timeout).push (.requestTimeout r.initiator w a)).leaveHead
  | .tracking w => ((s.answer (requesterOf r) .timeout).push (.requestTimeout r.initiator w r.addr)).leaveHead

/-- The expiry of the stall timer while a wait holds the head. An expiry that is not due, or that finds no wait, does not
happen (R167, R168). -/
def State.stallExpiry (s : State) : State :=
  match s.ingress.queue, s.ingress.wait, s.ingress.timer with
  | r :: _, some w, some t => if s.expired t.start t.length then s.expireWait r w else s
  | _, _, _ => s

/-! ## Responses of handed-over requests (R169) -/

/-- Counts the answer of one downstream request in its pending answer, and answers the request when none is left. -/
def State.countAnswer (s : State) (id : Nat) (kind : DownKind) (r : DownResponse) : State :=
  match s.ingress.answers.find? fun p => p.id = id with
  | none => s
  | some p =>
    let failed := p.failed || r = .error
    if p.remaining ≤ 1 then
      let t := { s with ingress := { s.ingress with answers := s.ingress.answers.filter fun q => q.id ≠ id } }
      match failed, kind, r with
      | false, .read _, .ack data => t.answer p.requester (.ok data)
      | false, _, _ => t.answer p.requester (.ok [])
      | true, _, _ => t.answer p.requester .memoryError
    else
      { s with ingress := { s.ingress with answers := s.ingress.answers.map fun q =>
          if q.id = id then { q with remaining := q.remaining - 1, failed := failed } else q } }

/-! ## The commands -/

/-- UPSTREAM_REQUEST (R163). A term whose length is not 1–256 is no request (R161). -/
def execUpstreamRequest (r : UpRequest) (s : State) : Host.Outcome State Fault Refusal :=
  if r.WellFormed then .next (s.accept r) else .refused .illFormed

/-- HEAD_EVALUATION (R165). -/
def execHeadEvaluation (s : State) : Host.Outcome State Fault Refusal :=
  .next s.evaluateHead

/-- STALL_TIMER_EXPIRY (R168). -/
def execStallTimerExpiry (s : State) : Host.Outcome State Fault Refusal :=
  .next s.stallExpiry

end Sys2Proof.Machine
end

