-- ==== Sys2Proof/Machine/Journal.lean ====
section
/-! DEFINITION. The ring manager's reservations and retired tail, its start of an anchor update, the drain check, and the journal
writer: taking the commit queue head, writing records, flushing, durability and journal faults (chapters 5, 6 and 10). -/

namespace Sys2Proof.Machine

/-! ## Reservation (R107–R109) -/

/-- Decides a reservation of `n` bytes from the head and the free space (R108). -/
def Ring.grant (g : Ring) (size n : Nat) : Option Grant :=
  if g.head + n ≤ size then
    if n ≤ size - g.live then some ⟨g.head, none⟩ else none
  else
    if size - g.head + n ≤ size - g.live then some ⟨0, some ⟨g.head, size - g.head⟩⟩ else none

/-- A ring offset just past `n` bytes from `o`, wrapped at the ring end (R108, R110). -/
def wrapOffset (size o n : Nat) : Nat := if o + n = size then 0 else o + n

/-- Moves the ring manager over a granted reservation of `n` bytes: the head, the next sequence, the live bytes and the
pending pad, which the retired tail passes at once where every earlier record has retired (R108, R109). -/
def Ring.reserve (g : Ring) (size n : Nat) (grant : Grant) : Ring :=
  match grant.pad with
  | none =>
    { g with head := wrapOffset size grant.offset n, nextSequence := g.nextSequence + 1, live := g.live + n,
             spaceRequest := false }
  | some p =>
    let h := { g with head := wrapOffset size grant.offset n, nextSequence := g.nextSequence + 1,
                      live := g.live + (p.length + n), spaceRequest := false }
    if g.retiredSequence = g.nextSequence then
      { h with retiredOffset := 0, unanchored := g.unanchored + p.length, pendingPad := none }
    else { h with pendingPad := some p }

/-- A reservation that cannot be granted sets the space request, and the again flag where an update is in flight (R108,
R112). -/
def Ring.refuseSpace (g : Ring) : Ring :=
  { g with spaceRequest := true, again := g.again || g.update ≠ .idle }

/-! ## The retired tail (R110) -/

/-- Moves the retired tail over a retired record of `n` bytes at offset `o` with sequence `q`, and over the pending pad
where it has reached it (R110). -/
def Ring.retire (g : Ring) (size interval o n : Nat) (q : Word64) : Ring :=
  let count := if g.retirements < 64 then g.retirements + 1 else 64
  let h := { g with
    retiredOffset := wrapOffset size o n, retiredSequence := q + 1, unanchored := g.unanchored + n, retirements := count,
    again := g.again || (g.update ≠ .idle && g.retirements < interval && interval ≤ count) }
  match g.pendingPad with
  | some p =>
    if p.offset = wrapOffset size o n then
      { h with retiredOffset := 0, unanchored := g.unanchored + n + p.length, pendingPad := none }
    else h
  | none => h

/-! ## Starting an anchor update (R112) -/

/-- Whether the mode lets the writer take heads and the ring manager start anchor updates (R83, R112). -/
def Mode.carriesCommits : Mode → Bool
  | .online | .draining => true
  | _ => false

/-- Whether a trigger of an anchor update stands (R112). -/
def State.updateTrigger (s : State) : Bool :=
  s.settings.anchorInterval ≤ s.ring.retirements || s.ring.spaceRequest || s.mode = .draining || s.ring.again

/-- Whether the ring manager starts an anchor update (R112). -/
def State.updateDue (s : State) : Bool :=
  s.ring.update = .idle && s.mode.carriesCommits && s.ring.unanchored ≠ 0 && s.updateTrigger

/-- Checks the start conditions and starts an anchor update where they hold: the again flag is cleared and the home FLUSH presented
(R112). Between the start and the grant of
the home FLUSH the snapshot is absent: R113 takes it at the grant, where R106 has it present in every state but IDLE
(DEDUCED, assumption 30). -/
def State.startUpdate (s : State) : State :=
  if s.updateDue then
    { s with ring := { s.ring with again := false, update := .homeFlush, toIssue := [(.flush, .homeFlush)] } }
  else s

/-! ## The drain check (R183) -/

/-- Whether the drain is complete (R183). -/
def State.drainDone (s : State) : Bool :=
  s.mode = .draining && s.writer.commitQueue = [] && s.writer.openBatch = [] && s.writer.flight = none &&
    s.release.queue = [] && s.release.releasing = [] && s.ring.unanchored = 0

/-- The mode controller makes the drain check and ends the drain where it is complete (R183). -/
def State.drainCheck (s : State) : State :=
  if s.drainDone then (s.setMode .drained).push (.drainDone s.ring.durableSequence) else s

/-! ## Flushing (R93) -/

/-- Whether the writer can take another head at this moment (R93). -/
def State.canTakeHead (s : State) : Bool :=
  s.writer.commitQueue ≠ [] && !s.ring.spaceRequest && s.mode.carriesCommits

/-- Whether every write of a record has been issued and acknowledged (R92). -/
def BatchRecord.written (b : BatchRecord) : Bool :=
  b.toIssue = [] && b.unanswered = 0

/-- Whether a record flush is issued for the open batch (R93). -/
def State.flushDue (s : State) : Bool :=
  s.writer.active && s.writer.openBatch ≠ [] && s.writer.openBatch.all BatchRecord.written && s.writer.flight = none &&
    (s.settings.flushBatch ≤ s.writer.openBatch.length || !s.canTakeHead)

/-- Checks R93: where a record flush is due it is presented, and the open batch moves to the flush in flight. -/
def State.checkFlush (s : State) : State :=
  if s.flushDue then
    { s with writer := { s.writer with
        openBatch := [], flight := some ⟨s.writer.openBatch.map BatchRecord.context, true⟩ } }
  else s

/-! ## Taking the head (R83, R84) -/

/-- The writes of a record with its pad, in the order they are presented (R90, R91). -/
def State.recordWrites (s : State) (c : ContextIx) (o : Owner) (interfered : Bool) (m : CommitMarker) (g : Grant) :
    List DownRequest :=
  (match g.pad with
    | some p => writesAt (s.ringAddr p.offset) (padBytes p.length s.ring.nextSequence)
    | none => []) ++
  writesAt (s.ringAddr g.offset) (recordBytes s.ring.epoch o interfered m s.ring.nextSequence (s.slotList c))

/-- Takes a granted head: the context becomes WRITING with its sequence and offset and joins the open batch (R84). -/
def State.takeGranted (s : State) (c : ContextIx) (o : Owner) (interfered : Bool) (m : CommitMarker)
    (p : Option Requester) (g : Grant) : State :=
  let t := s.setCtx c (.writing o interfered m ⟨s.ring.nextSequence, g.offset⟩ p)
  { t with
    writer := { s.writer with
      commitQueue := s.writer.commitQueue.tail
      openBatch := s.writer.openBatch ++ [⟨c, s.recordWrites c o interfered m g, 0⟩] }
    ring := s.ring.reserve s.ringSize (recordLength (s.entryCount c)) g }

/-- Whether conditions 1 to 4 of R83 hold. -/
def State.mayTakeHead (s : State) : Bool :=
  s.writer.active && s.mode.carriesCommits && s.writer.commitQueue ≠ [] &&
    s.writer.openBatch.length < s.settings.flushBatch

/-- The writer asks for space for the head of the commit queue and takes the head where it is granted; otherwise it
waits for space. Either way the conditions of R93 are checked, and those of R112 where the space request has changed. `renew` says
that a writer already waiting asks again (R83, R84, R108). -/
def State.askForSpace (s : State) (renew : Bool) : State :=
  match s.writer.commitQueue with
  | [] => s
  | c :: _ =>
    match s.ctx c with
    | .queued o interfered m p =>
      match s.ring.grant s.ringSize (recordLength (s.entryCount c)) with
      | some g =>
        let t := s.takeGranted c o interfered m p g
        (if s.ring.spaceRequest then t.startUpdate else t).checkFlush
      | none =>
        if s.ring.spaceRequest && !renew then s
        else (State.startUpdate { s with ring := s.ring.refuseSpace }).checkFlush
    | _ => s

/-- The writer takes the head of the commit queue where R83 lets it. Where conditions 1 to 4 do not hold the conditions of R93
are checked: an open batch that a FLUSH_BATCH written meanwhile makes full is flushed at this check (R83; that the write itself
makes no check is DEDUCED, assumption 29). -/
def State.takeHead (s : State) : State :=
  if s.mayTakeHead then s.askForSpace false else s.checkFlush

/-- The ring manager tells the writer that the durable tail has moved: a writer that waits for space asks again (R108,
R115). -/
def State.spaceFreed (s : State) : State :=
  if s.ring.spaceRequest && s.mayTakeHead then s.askForSpace true else s

/-! ## Answers to record writes and record flushes (R92, R94, R96, R98) -/

/-- Counts an acknowledged record write (R92). -/
def State.countRecordWrite (s : State) (c : ContextIx) : State :=
  { s with writer := { s.writer with openBatch := s.writer.openBatch.map fun b =>
      if b.context = c then { b with unanswered := b.unanswered - 1 } else b } }

/-- The answer to a record or pad write, absorbed while the writer is STOPPED (R92, R96, R98). -/
def State.recordWriteAnswer (s : State) (c : ContextIx) (a : Option Addr) (r : DownResponse) : State :=
  if s.writer.active then
    match r with
    | .ack _ => (s.countRecordWrite c).checkFlush
    | .error => s.journalFault .write a (s.ctx c).sequence?
  else s

/-- Makes the context of a covered record DURABLE: it joins the release queue, its pending COMMIT is answered OK, and
TXN_DURABLE is pushed where enabled (R94). -/
def State.makeDurable (s : State) (c : ContextIx) : State :=
  match s.ctx c with
  | .writing o i m pl p =>
    let t := s.setCtx c (.durable o i m pl)
    let t := { t with release := { t.release with queue := t.release.queue ++ [c] } }
    (t.answerPending p (.ok [])).pushIf (s.window o.window).durableEvent
      (.txnDurable c o.initiator o.window pl.sequence (s.entryCount c))
  | _ => s

/-- The answer to the record flush in flight, absorbed while the writer is STOPPED (R94, R96, R98). -/
def State.recordFlushAnswer (s : State) (r : DownResponse) : State :=
  if s.writer.active then
    match s.writer.flight with
    | none => s
    | some f =>
      match r with
      | .ack _ =>
        let t := f.contexts.foldl State.makeDurable s
        State.checkFlush { t with writer := { t.writer with flight := none } }
      | .error => s.journalFault .flush none (f.contexts.head?.bind fun c => (s.ctx c).sequence?)
  else s

/-! ## The commands -/

/-- TAKE_COMMIT_HEAD (R84, R93). -/
def execTakeCommitHead (s : State) : Host.Outcome State Fault Refusal :=
  .next s.takeHead

end Sys2Proof.Machine
end

