-- ==== Sys2Proof/Machine/Release.lean ====
section
/-! DEFINITION. The release engine: taking contexts, the order of release writes, release faults and retirement
(chapter 7). -/

namespace Sys2Proof.Machine

/-! ## The ready write (R125) -/

/-- The ready write of the releasing context with the lowest sequence. `lines` says that every context before has issued
all its line writes, `markers` that every one before has issued its marker write (R125). -/
def readyWrite (count : ContextIx → Nat) : List Progress → Bool → Bool → Option ReleaseWrite
  | [], _, _ => none
  | p :: ps, lines, markers =>
    if lines && p.issued < count p.context then some (.line p.context)
    else if markers && p.issued = count p.context && p.acked = count p.context && !p.markerIssued then
      some (.marker p.context)
    else readyWrite count ps (lines && count p.context ≤ p.issued) (markers && p.markerIssued)

/-- The engine presents its ready write while it is ACTIVE and has none presented (R125). -/
def State.presentRelease (s : State) : State :=
  if s.release.active && s.release.presented = none then
    { s with release := { s.release with presented := readyWrite s.entryCount s.release.releasing true true } }
  else s

/-- Changes the progress of a releasing context. -/
def State.updateProgress (s : State) (c : ContextIx) (f : Progress → Progress) : State :=
  { s with release := { s.release with releasing := s.release.releasing.map fun p => if p.context = c then f p else p } }

/-- The progress of a releasing context. -/
def State.progress (s : State) (c : ContextIx) : Option Progress :=
  s.release.releasing.find? fun p => p.context = c

/-- The downstream request of a release write (R124). -/
def State.releaseRequest (s : State) (w : ReleaseWrite) : Option (DownRequest × Ref) :=
  match w with
  | .line c =>
    match s.progress c with
    | some p => (s.slotList c)[p.issued]?.map fun h => (.write h.line h.bytes, .releaseLine c)
    | none => none
  | .marker c =>
    match s.ctx c with
    | .releasing _ _ m _ => some (markerWrite m.address m.value, .releaseMarker c)
    | _ => none

/-- A granted release write is issued, and the next ready write is presented (R125). -/
def State.releaseGranted (s : State) (w : ReleaseWrite) : State :=
  let t := match w with
    | .line c => s.updateProgress c fun p => { p with issued := p.issued + 1 }
    | .marker c => s.updateProgress c fun p => { p with markerIssued := true }
  State.presentRelease { t with release := { t.release with presented := none } }

/-! ## Taking the head of the release queue (R123) -/

/-- The engine takes the head of the release queue where R123 lets it. -/
def State.takeDurable (s : State) : State :=
  match s.release.queue with
  | [] => s
  | c :: rest =>
    match s.ctx c with
    | .durable o i m pl =>
      if s.release.active && s.release.releasing.length < Config.releasingDepth then
        let t := s.setCtx c (.releasing o i m pl)
        State.presentRelease { t with release := { t.release with
          queue := rest, releasing := t.release.releasing ++ [⟨c, 0, 0, false, false⟩] } }
      else s
    | _ => s

/-! ## Answers and the release fault (R126, R130, R131, R133) -/

/-- The effects of a release fault after its event (R131). The writer is not stopped; it cannot take another head in
FAULTED, so R93 is checked (R101). -/
def State.releaseFaultEffects (s : State) : State :=
  ((s.haltRelease.enterFaulted).failOpen .journal).checkFlush

/-- A release fault of a context's write (R130, R131). -/
def State.releaseFault (s : State) (c : ContextIx) (d : ReleaseDetail) (a : Option Addr) : State :=
  match s.ctx c with
  | .releasing o _ _ pl =>
    (s.push (.releaseFault c o.initiator o.window pl.sequence d a)).releaseFaultEffects
  | _ => s

/-- The answer to a line write, absorbed while the engine is HALTED (R126, R133). -/
def State.releaseLineAnswer (s : State) (c : ContextIx) (a : Option Addr) (r : DownResponse) : State :=
  if s.release.active then
    match r with
    | .ack _ => (s.updateProgress c fun p => { p with acked := p.acked + 1 }).presentRelease
    | .error => s.releaseFault c .line a
  else s

/-- The answer to a marker write, absorbed while the engine is HALTED (R126, R133). -/
def State.releaseMarkerAnswer (s : State) (c : ContextIx) (a : Option Addr) (r : DownResponse) : State :=
  if s.release.active then
    match r with
    | .ack _ => (s.updateProgress c fun p => { p with markerAcked := true }).presentRelease
    | .error => s.releaseFault c .marker a
  else s

/-! ## Retirement (R127–R129) -/

/-- Whether the first releasing context has completed its release (R127). -/
def firstComplete : List Progress → Bool
  | p :: _ => p.markerAcked
  | [] => false

/-- Evaluates the head again where it is held by a wait that the retirement run has ended; a head in no such wait is left to
its own evaluation (R129). -/
def State.reevaluate (s : State) : State :=
  match s.ingress.wait with
  | some w => if w.onSlotFree then (s.endWait HeadWait.onSlotFree).evaluateHead else s
  | none => s

/-- Retires a releasing context: the ring manager is told and checks its start conditions, and the mode controller is told and makes
the drain check (R110, R128, R183). The head is evaluated again once the retirement run is complete, that is when the next first
context has not completed its release (R129). -/
def State.retire (s : State) (c : ContextIx) (rest : List Progress) : State :=
  match s.ctx c with
  | .releasing o _ _ pl =>
    let n := s.entryCount c
    let t := s.dropSlots c
    let t := State.startUpdate
      { t with ring := t.ring.retire s.ringSize s.settings.anchorInterval pl.offset (recordLength n) pl.sequence }
    let t := t.pushIf (s.window o.window).retiredEvent (.txnRetired c o.initiator o.window pl.sequence n)
    let t := t.setCtx c .free
    let t := State.drainCheck { t with release := { t.release with releasing := rest } }
    if firstComplete rest then t.presentRelease else t.presentRelease.reevaluate
  | _ => s

/-- The retirement of the first releasing context, where the engine is ACTIVE and its release is complete (R127). -/
def State.retireFirst (s : State) : State :=
  match s.release.releasing with
  | p :: rest => if s.release.active && p.markerAcked then s.retire p.context rest else s
  | [] => s

/-! ## The commands -/

/-- RELEASE_TAKE_HEAD (R123). -/
def execReleaseTakeHead (s : State) : Host.Outcome State Fault Refusal :=
  .next s.takeDurable

/-- RETIREMENT (R128). -/
def execRetirement (s : State) : Host.Outcome State Fault Refusal :=
  .next s.retireFirst

end Sys2Proof.Machine
end

