-- ==== Sys2Proof/Machine/Recovery.lean ====
section
/-! DEFINITION. The anchor update, the drain, and the recovery engine: anchor selection, scan, replay, the closing update
and the end of recovery (chapters 6, 8 and 10). -/

namespace Sys2Proof.Machine

/-! ## Entering and leaving DRAINING (R181, R184) -/

/-- The entry to DRAINING as a trigger of R112: it starts an anchor update where none is in flight and something is unanchored,
and sets the again flag where one is in flight (R112, R181). -/
def State.drainTrigger (s : State) : State :=
  if s.ring.update = .idle then s.startUpdate else { s with ring := { s.ring with again := true } }

/-- Enters DRAINING in one step: every OPEN context fails POWER, the ring manager checks its start conditions, and the drain
check is made, after which the mode may already be DRAINED (R181, R183). -/
def State.enterDraining (s : State) : State :=
  (((s.setMode .draining).failOpen .power).drainTrigger).drainCheck

/-! ## The anchor update (R111–R117) -/

/-- At the grant of the home FLUSH the ring manager takes its snapshot and starts counting retirements anew; the closing
update of a recovery keeps the snapshot it was supplied (R113, R120). -/
def Ring.takeSnapshot (g : Ring) : Ring :=
  if g.closing then g
  else { g with snapshot := some ⟨g.retiredOffset, g.retiredSequence, g.unanchored⟩, retirements := 0 }

/-- The two writes of the next anchor copy with the snapshot's tail (R105, R114). -/
def State.anchorWrites (s : State) : List (DownRequest × Ref) :=
  let tail := s.ring.snapshot.getD ⟨0, 0, 0⟩
  (writesAt (s.copyAddr s.ring.nextCopy)
    (anchorBytes s.ring.epoch (s.ring.generation + 1) s.settings.ringSizeLog2 s.settings.journalBase tail.offset
      tail.sequence)).map fun w => (w, .anchorWrite)

/-- The copy not just written. -/
def AnchorCopy.other : AnchorCopy → AnchorCopy
  | .a => .b
  | .b => .a

/-- An anchor fault of an update started in ONLINE or DRAINING, reported as a journal fault (R117). -/
def State.anchorFault (s : State) (d : JournalDetail) (a : Option Addr) : State :=
  s.abandonUpdate.journalFault d a (s.ring.snapshot.map Snapshot.sequence)

/-! ## The recovery fault (R159) -/

/-- Answers every entry of the in-doubt list, in list order, and empties it (R158, R159). -/
def State.settleInDoubt (s : State) (verdict : InDoubt → AnswerCode) : State :=
  { s with upOut := s.upOut ++ s.inDoubt.map (fun d => ⟨d.requester, verdict d⟩), inDoubt := [] }

/-- The expected sequence a recovery fault reports: the one of the scan, or the end sequence at which it ended; there is
none while the anchors are read (DEDUCED, assumption 12). -/
def Phase.expected? : Phase → Option Word64
  | .scan k => some k.expected
  | .close k => some k.endSequence
  | _ => none

/-- The records replayed that a recovery fault reports; the engine keeps no count while the anchors are read
(DEDUCED, assumption 12). -/
def Phase.replayed? : Phase → Option Nat
  | .scan k => some k.replayed
  | .close k => some k.replayed
  | _ => none

/-- A recovery fault: requests are withdrawn, the closing update abandoned, the in-doubt entries answered
FAILED/RECOVERY, RECOVERY_FAULT pushed, and the mode becomes FAULTED (R159). -/
def State.recoveryFault (s : State) (d : RecoveryDetail) (a : Option Addr) : State :=
  let t := (s.abandonUpdate).settleInDoubt fun _ => .failed .recovery
  let t := t.push (.recoveryFault s.recovery.phase.expected? d a s.recovery.phase.replayed?)
  let t := t.setMode .faulted
  { t with recovery := { phase := .idle, toIssue := [] } }

/-! ## Beginning and closing a recovery (R120, R150, R151, R157) -/

/-- Begins anchor selection: the two READs of the anchor copies are presented (R150). -/
def State.beginAnchors (s : State) (format : Bool) : State :=
  { s with recovery := {
      phase := .anchors format none none
      toIssue := [(.read (s.copyAddr .a) Config.anchorBytes, .anchorRead .a),
                  (.read (s.copyAddr .b) Config.anchorBytes, .anchorRead .b)] } }

/-- The recovery engine asks the ring manager for its closing update with the end of the scan as the tail; without FORMAT
the current epoch first rises by one (R120, R157). -/
def State.askClosing (s : State) (k : Close) : State :=
  { s with ring := { s.ring with
      epoch := if k.format then s.ring.epoch else s.ring.epoch + 1
      update := .homeFlush
      snapshot := some ⟨k.endOffset, k.endSequence, 0⟩
      closing := true
      toIssue := [(.flush, .homeFlush)]
      writesAcked := 0 } }

/-- Enters CLOSE and asks for the closing update (R155, R157). -/
def State.enterClose (s : State) (k : Close) : State :=
  State.askClosing { s with recovery := { phase := .close k, toIssue := [] } } k

/-- The scan has ended at the scan offset with the expected sequence: CLOSE follows once every replay write is
acknowledged (R155). -/
def State.endScan (s : State) (k : Scan) : State :=
  if k.unanswered = 0 then s.enterClose ⟨some k.chosen, false, k.offset, k.expected, k.replayed, 0⟩
  else { s with recovery := { phase := .scan { k with step := .ended }, toIssue := [] } }

/-- Presents the READ of the 16 bytes at the scan offset (R152). -/
def State.examine (s : State) (k : Scan) : State :=
  { s with recovery := {
      phase := .scan { k with step := .item, buffer := [] }
      toIssue := [(.read (s.ringAddr k.offset) 16, .scanRead)] } }

/-- The ring manager loads what recovery found: epoch, generation and next anchor copy (R120). -/
def State.loadRing (s : State) (epoch : Word32) (generation : Word64) (copy : AnchorCopy) : State :=
  { s with ring := { s.ring with epoch := epoch, generation := generation, nextCopy := copy } }

/-- The two writes that zero anchor copy B (R151). -/
def State.zeroWrites (s : State) : List (DownRequest × Ref) :=
  (writesAt (s.copyAddr .b) (List.replicate Config.anchorBytes 0)).map fun w => (w, .zeroWrite)

/-- Both copies are read: recovery judges them and scans, formats, or faults with NO_ANCHOR (R150, R151). -/
def State.judgeAnchors (s : State) (format : Bool) (copyA copyB : List Byte) : State :=
  match chooseAnchor copyA copyB s.settings.ringSizeLog2 s.settings.journalBase, format with
  | some k, false =>
    (s.loadRing k.epoch k.generation k.copy.other).examine
      ⟨k, k.tailOffset, k.tailSequence, 0, [], 0, .item, 0⟩
  | some k, true =>
    (s.loadRing s.settings.journalEpoch k.generation k.copy.other).enterClose ⟨some k, true, 0, 1, 0, 0⟩
  | none, false => s.recoveryFault .noAnchor (some s.settings.journalBase)
  | none, true =>
    let t := s.loadRing s.settings.journalEpoch 0 .a
    { t with recovery := { phase := .close ⟨none, true, 0, 1, 0, 2⟩, toIssue := t.zeroWrites } }

/-- The answer to the READ of an anchor copy; outside ANCHORS it is absorbed (R150, R159). -/
def State.anchorReadAnswer (s : State) (copy : AnchorCopy) (a : Option Addr) (r : DownResponse) : State :=
  match s.recovery.phase, r with
  | .anchors _ _ _, .error => s.recoveryFault .anchorRead a
  | .anchors format x y, .ack data =>
    let x' := match copy with | .a => some data | .b => x
    let y' := match copy with | .a => y | .b => some data
    match x', y' with
    | some p, some q => s.judgeAnchors format p q
    | _, _ => { s with recovery := { s.recovery with phase := .anchors format x' y' } }
  | _, _ => s

/-! ## The scan (R152–R155) -/

/-- The READs of the rest of a record of `n` bytes at ring offset `o`, 256 bytes each from byte `at_` up (R154). The
first argument bounds their number. -/
def State.bodyReads (s : State) (o n : Nat) : Nat → Nat → List (DownRequest × Ref)
  | 0, _ => []
  | k + 1, at_ =>
    if at_ < n then
      (.read (s.ringAddr (o + at_)) (min Config.bodyRead (n - at_)), .bodyRead at_) ::
        s.bodyReads o n k (at_ + Config.bodyRead)
    else []

/-- The answer to the READ of the item at the scan offset: a pad is judged, a record's header is read, and anything else
ends the scan (R152, R153, R154). -/
def State.scanItem (s : State) (k : Scan) (item : List Byte) : State :=
  let magic := field item 0 4
  if magic = Config.padMagic then
    if padFollowed item k.expected k.offset k.scanned s.ringSize then
      s.examine { k with offset := 0, scanned := k.scanned + field item 4 4 }
    else s.endScan k
  else if magic = Config.recordMagic ∧ k.offset + 64 ≤ s.ringSize then
    { s with recovery := {
        phase := .scan { k with step := .header, buffer := item }
        toIssue := [(.read (s.ringAddr (k.offset + 16)) 48, .headerRead)] } }
  else s.endScan k

/-- The header of the record at the scan offset is in hand: it is judged, and where it passes the rest of the record is
read (R154). -/
def State.scanHeader (s : State) (k : Scan) (rest : List Byte) : State :=
  let header := k.buffer ++ rest
  if headerPasses header k.chosen.epoch k.expected k.offset k.scanned s.ringSize then
    let n := field header 20 4
    let reads := s.bodyReads k.offset n n 64
    { s with recovery := {
        phase := .scan { k with step := .body reads.length, buffer := header ++ List.replicate (n - 64) 0 }
        toIssue := reads } }
  else s.endScan k

/-- Puts bytes into a buffer at an offset. -/
def overwrite (buffer : List Byte) (offset : Nat) (bytes : List Byte) : List Byte :=
  buffer.take offset ++ bytes ++ buffer.drop (offset + bytes.length)

/-- A valid record is replayed: its entry writes are presented in entry order (R156). -/
def State.beginReplay (s : State) (k : Scan) : State :=
  let n := field k.buffer 18 2
  { s with recovery := {
      phase := .scan { k with step := .entries n, unanswered := k.unanswered + n }
      toIssue := (replayWrites k.buffer n).map fun w => (w, .replayEntry) } }

/-- One READ of a record's body is answered; when all are, the record is judged (R154; DESIGN CHOICE, assumption 13). -/
def State.scanBody (s : State) (k : Scan) (missing offset : Nat) (data : List Byte) : State :=
  let k := { k with buffer := overwrite k.buffer offset data }
  if missing ≤ 1 then
    if trailerPasses k.buffer then s.beginReplay k else s.endScan k
  else { s with recovery := { s.recovery with phase := .scan { k with step := .body (missing - 1) } } }

/-- The answer to a READ of the scan; outside SCAN it is absorbed (R152, R154, R159). -/
def State.scanAnswer (s : State) (ref : Ref) (a : Option Addr) (r : DownResponse) : State :=
  match s.recovery.phase, r with
  | .scan _, .error => s.recoveryFault .scanRead a
  | .scan k, .ack data =>
    match ref, k.step with
    | .scanRead, .item => s.scanItem k data
    | .headerRead, .header => s.scanHeader k data
    | .bodyRead offset, .body missing => s.scanBody k missing offset data
    | _, _ => s
  | _, _ => s

/-! ## Replay (R156, R157) -/

/-- Every entry write of the record is acknowledged: its marker write is presented (R156). -/
def State.presentReplayMarker (s : State) (k : Scan) : State :=
  { s with recovery := {
      phase := .scan { k with step := .marker, unanswered := k.unanswered + 1 }
      toIssue := [(markerWrite (BitVec.ofNat 48 (field k.buffer 40 8)) (BitVec.ofNat 64 (field k.buffer 48 8)),
        .replayMarker)] } }

/-- The marker write of a replayed record has been granted: the scan moves past the record and examines the next item
(R155, R156). -/
def State.passRecord (s : State) : State :=
  match s.recovery.phase with
  | .scan k =>
    let n := field k.buffer 20 4
    s.examine { k with offset := wrapOffset s.ringSize k.offset n, expected := k.expected + 1, scanned := k.scanned + n }
  | _ => s

/-- The answer to an entry write of a replayed record (R156, R159). -/
def State.replayEntryAnswer (s : State) (a : Option Addr) (r : DownResponse) : State :=
  match s.recovery.phase, r with
  | .scan _, .error => s.recoveryFault .replay a
  | .scan k, .ack _ =>
    let k := { k with unanswered := k.unanswered - 1 }
    match k.step with
    | .entries left =>
      if left ≤ 1 then s.presentReplayMarker k
      else { s with recovery := { s.recovery with phase := .scan { k with step := .entries (left - 1) } } }
    | _ => { s with recovery := { s.recovery with phase := .scan k } }
  | _, _ => s

/-- The answer to the marker write of a replayed record: the record's replay is complete, and a scan that has ended goes
to CLOSE with the last acknowledgement (R155, R156, R157, R159; DESIGN CHOICE, assumption 14). -/
def State.replayMarkerAnswer (s : State) (a : Option Addr) (r : DownResponse) : State :=
  match s.recovery.phase, r with
  | .scan _, .error => s.recoveryFault .replay a
  | .scan k, .ack _ =>
    let k := { k with unanswered := k.unanswered - 1, replayed := k.replayed + 1 }
    match k.step with
    | .ended => s.endScan k
    | _ => { s with recovery := { s.recovery with phase := .scan k } }
  | _, _ => s

/-- The answer to a zeroing write: when both are acknowledged the closing update is asked for (R151, R157, R159). -/
def State.zeroAnswer (s : State) (a : Option Addr) (r : DownResponse) : State :=
  match s.recovery.phase, r with
  | .close _, .error => s.recoveryFault .replay a
  | .close k, .ack _ =>
    if k.zeroing ≤ 1 then s.enterClose { k with zeroing := 0 }
    else { s with recovery := { s.recovery with phase := .close { k with zeroing := k.zeroing - 1 } } }
  | _, _ => s

/-! ## The end of recovery (R158) -/

/-- The verdict of an in-doubt entry when recovery ends at an end sequence (R158). -/
def verdict (endSequence : Word64) (d : InDoubt) : AnswerCode :=
  if d.sequence.toNat < endSequence.toNat then .ok [] else .failed .reset

/-- Recovery ends with RECOVERY_DONE: the in-doubt entries are answered, the writer and the release engine become ACTIVE with
empty queues, and the mode becomes ONLINE, or DRAINING and by its drain check DRAINED while PFWARN is asserted (R158, R181). -/
def State.finishRecovery (s : State) (k : Close) : State :=
  let t := (s.settleInDoubt (verdict k.endSequence)).push (.recoveryDone k.endSequence k.replayed)
  let t := { t with
    writer := { active := true, commitQueue := [], openBatch := [], flight := none }
    release := { active := true, queue := [], releasing := [], presented := none }
    recovery := { phase := .idle, toIssue := [] } }
  if s.pfwarn then t.enterDraining else t.setMode .online

/-- The ring manager's resumed state at the completion of the closing update (R120, R157). -/
def Ring.resume (g : Ring) (k : Close) : Ring :=
  { g with
    head := k.endOffset, retiredOffset := k.endOffset, durableOffset := k.endOffset
    nextSequence := k.endSequence, retiredSequence := k.endSequence, durableSequence := k.endSequence
    live := 0, unanchored := 0, retirements := 0, pendingPad := none
    generation := g.generation + 1, nextCopy := g.nextCopy.other
    update := .idle, snapshot := none, closing := false, toIssue := [], writesAcked := 0 }

/-- An anchor update completes: the durable tail moves to the snapshot and its bytes become free (R115, steps 1 to 5). -/
def Ring.complete (g : Ring) (k : Snapshot) : Ring :=
  { g with
    durableOffset := k.offset, durableSequence := k.sequence
    live := g.live - k.unanchored, unanchored := g.unanchored - k.unanchored
    generation := g.generation + 1, nextCopy := g.nextCopy.other
    update := .idle, snapshot := none, toIssue := [], writesAcked := 0 }

/-- The anchor FLUSH is acknowledged: the update completes, the writer is told, the drain check is made and the start conditions of
the next update are checked, all in the one step; or the closing update completes and recovery ends (R115, R120, R158). -/
def State.completeUpdate (s : State) : State :=
  if s.ring.closing then
    match s.recovery.phase with
    | .close k => State.finishRecovery { s with ring := s.ring.resume k } k
    | _ => s
  else
    match s.ring.snapshot with
    | some k => ((State.spaceFreed { s with ring := s.ring.complete k }).drainCheck).startUpdate
    | none => s

/-! ## Answers to the requests of an anchor update (R114–R117, R120) -/

/-- An error or timeout on a request of the update in flight: a recovery fault for a closing update, else an anchor fault.
A write reports its own address; for a FLUSH the anchor fault reports the copy being written (R117, R120, R159). -/
def State.updateError (s : State) (d : JournalDetail) (a : Option Addr) : State :=
  if s.ring.closing then s.recoveryFault .close a
  else s.anchorFault d (some (a.getD (s.copyAddr s.ring.nextCopy)))

/-- The answer to the home FLUSH; absorbed where its update was abandoned (R114, R116). -/
def State.homeFlushAnswer (s : State) (r : DownResponse) : State :=
  match s.ring.update, r with
  | .homeFlush, .ack _ =>
    { s with ring := { s.ring with update := .anchorWrite, toIssue := s.anchorWrites, writesAcked := 0 } }
  | .homeFlush, .error => s.updateError .anchorFlush none
  | _, _ => s

/-- The answer to an anchor write; the second acknowledgement leads on to the anchor FLUSH (R114, R116). -/
def State.anchorWriteAnswer (s : State) (a : Option Addr) (r : DownResponse) : State :=
  match s.ring.update, r with
  | .anchorWrite, .ack _ =>
    if s.ring.writesAcked = 0 then { s with ring := { s.ring with writesAcked := 1 } }
    else { s with ring := { s.ring with update := .anchorFlush, toIssue := [(.flush, .anchorFlush)], writesAcked := 2 } }
  | .anchorWrite, .error => s.updateError .anchorWrite a
  | _, _ => s

/-- The answer to the anchor FLUSH (R115, R116). -/
def State.anchorFlushAnswer (s : State) (r : DownResponse) : State :=
  match s.ring.update, r with
  | .anchorFlush, .ack _ => s.completeUpdate
  | .anchorFlush, .error => s.updateError .anchorFlush none
  | _, _ => s

/-! ## The warm reset (R41, R146, R148) -/

/-- Treats one context when a warm reset begins: timers stop, and pending responses are taken out (R41). -/
def Context.atWarmReset : Context → Context
  | .opened o f a _ => .opened o f a false
  | .failed o r a _ => .failed o r a none
  | .queued o f m _ => .queued o f m none
  | .writing o f m p _ => .writing o f m p none
  | c => c

/-- The pending response of a QUEUED context, answered FAILED/RESET when a warm reset begins (R35). -/
def State.resetAnswer? (s : State) (c : ContextIx) : Option Answer :=
  match s.ctx c with
  | .queued _ _ _ (some q) => some ⟨q, .failed .reset⟩
  | _ => none

/-- The in-doubt entry of a WRITING context with a pending response (R35, R41). -/
def State.inDoubt? (s : State) (c : ContextIx) : Option InDoubt :=
  match s.ctx c with
  | .writing _ _ _ p (some q) => some ⟨q, p.sequence⟩
  | _ => none

/-- The treatment of the contexts when a warm reset begins (R41). -/
def State.resetContexts (s : State) : State :=
  { s with
    upOut := s.upOut ++ s.writer.commitQueue.filterMap s.resetAnswer?
    inDoubt := s.inDoubt ++ s.unflushed.filterMap s.inDoubt?
    contexts := Vector.ofFn fun c => (s.ctx c).atWarmReset
    bindings := [] }

/-- Answers the head and every request behind it REFUSED/RESET and empties the ingress queue; the hand-over list is kept
and its requests count as presented before the warm reset (R146, R147, R170). -/
def State.resetIngress (s : State) : State :=
  { s with
    upOut := s.upOut ++ s.ingress.queue.map fun r => ⟨requesterOf r, .refused .reset⟩
    ingress := { s.ingress with
      queue := [], wait := none, timer := none, walk := none
      handOver := s.ingress.handOver.map fun h => { h with beforeReset := true } } }

/-- The first step of an accepted WARM_RESET (R146). -/
def State.beginWarmReset (s : State) : State :=
  let t := ((s.setMode .recovering).resetIngress).stopWriter.haltRelease.stopRing.resetContexts
  { t with recovery := { phase := .quiesce, toIssue := [] } }

/-- Whether QUIESCE has ended: nothing is outstanding and no request presented before the warm reset still waits for a
grant (R147). -/
def State.quiesced (s : State) : Bool :=
  s.recovery.phase = .quiesce && s.downstream.outstanding = [] && s.ingress.handOver.all fun h => !h.beforeReset

/-- The clearing step of a warm reset, after which anchor selection begins (R148). -/
def State.clearForRecovery (s : State) : State :=
  if s.quiesced then
    State.beginAnchors { s with
      contexts := Vector.replicate 16 Context.free
      bindings := []
      hold := []
      writer := { s.writer with commitQueue := [], openBatch := [], flight := none }
      release := { s.release with queue := [], releasing := [], presented := none }
      ring := Ring.cold } false
  else s

/-! ## The commands -/

/-- ANCHOR_UPDATE_START (R112). -/
def execAnchorUpdateStart (s : State) : Host.Outcome State Fault Refusal :=
  .next s.startUpdate

/-- DRAIN_COMPLETE (R183). -/
def execDrainComplete (s : State) : Host.Outcome State Fault Refusal :=
  .next s.drainCheck

/-- WARM_RESET_CLEARING (R148). -/
def execWarmResetClearing (s : State) : Host.Outcome State Fault Refusal :=
  .next s.clearForRecovery

end Sys2Proof.Machine
end

