-- ==== Sys2Proof/Machine/Arbiter.lean ====
section
/-! DEFINITION. The downstream port: the outbound arbiter and its grants, the owners' handling of answers, late responses
and response timeouts (chapter 9). -/

namespace Sys2Proof.Machine

/-! ## What each requester presents (R166, R91, R111, R125, R149) -/

/-- The write or FLUSH the journal writer presents: the record flush before the writes of later records, and the writes of
the open batch in order (R91, R93). -/
def Writer.presents (w : Writer) : Option (DownRequest × Ref) :=
  match w.flight with
  | some ⟨_, true⟩ => some (.flush, .recordFlush)
  | _ => w.openBatch.findSome? fun b => b.toIssue.head?.map fun q => (q, .recordWrite b.context)

/-- The request a requester presents, where it is ready. During QUIESCE the ingress side is ready only with a request that
stood in the hand-over list when the warm reset began (R147, R173). -/
def State.presents (s : State) (p : Port) : Option (DownRequest × Ref) :=
  match p with
  | .ingress =>
    match s.ingress.handOver with
    | h :: _ => if s.recovery.phase = .quiesce && !h.beforeReset then none else some (h.request, h.ref)
    | [] => none
  | .writer => s.writer.presents
  | .ring => s.ring.toIssue.head?
  | .release => s.release.presented.bind s.releaseRequest
  | .recovery => s.recovery.toIssue.head?

/-! ## The grant (R172, R173) -/

/-- The requester after one in ring order (R173). -/
def Port.next : Port → Port
  | .ingress => .writer
  | .writer => .ring
  | .ring => .release
  | .release => .recovery
  | .recovery => .ingress

/-- The five requesters in ring order from one on (R173). -/
def Port.ringFrom (p : Port) : List Port :=
  [p, p.next, p.next.next, p.next.next.next, p.next.next.next.next]

/-- The first ready requester in ring order with what it presents (R173). -/
def State.firstReady (s : State) : Option (Port × DownRequest × Ref) :=
  s.downstream.searchFrom.ringFrom.findSome? fun p => (s.presents p).map fun q => (p, q)

/-- The first value from the counter up that no entry holds, skipping at most the given number (R172). -/
def freeTag (held : List XferTag) : Nat → XferTag → XferTag
  | 0, t => t
  | k + 1, t => if t ∈ held then freeTag held k (t + 1) else t

/-- The transfer tag the next granted request takes (R172). -/
def Downstream.nextTag (d : Downstream) : XferTag :=
  freeTag (d.outstanding.map OutEntry.tag) d.outstanding.length d.counter

/-- The kind of a request, for its entry. -/
def DownRequest.kind : DownRequest → DownKind
  | .read _ n => .read n
  | .write _ _ => .write
  | .flush => .flush

/-- The address of a request; a FLUSH has none (R172). -/
def DownRequest.address : DownRequest → Option Addr
  | .read a _ => some a
  | .write l _ => some l
  | .flush => none

/-- Issues a request with the next transfer tag and enters it in the outstanding request table with the captured response
timeout (R172, R174). -/
def State.issue (s : State) (p : Port) (q : DownRequest) (ref : Ref) : State :=
  { s with
    downstream := {
      outstanding := s.downstream.outstanding ++
        [⟨s.downstream.nextTag, q.kind, q.address, ref, s.timebase, s.settings.downstreamTimeout⟩]
      counter := s.downstream.nextTag + 1
      searchFrom := p.next }
    dnOut := s.dnOut ++ [(s.downstream.nextTag, q)] }

/-- Takes the granted record write out of its record (R91, R92). -/
def popRecordWrite (c : ContextIx) : List BatchRecord → List BatchRecord
  | [] => []
  | b :: bs =>
    if b.context = c ∧ b.toIssue ≠ [] then { b with toIssue := b.toIssue.tail, unanswered := b.unanswered + 1 } :: bs
    else b :: popRecordWrite c bs

/-- What a grant does in the requester's block: the granted request leaves it, and its block does what its rules attach to
the grant (R113, R125, R156, R166). -/
def State.granted (s : State) (p : Port) (ref : Ref) : State :=
  match p with
  | .ingress => { s with ingress := { s.ingress with handOver := s.ingress.handOver.tail } }
  | .writer =>
    match ref with
    | .recordFlush => { s with writer := { s.writer with flight := s.writer.flight.map fun f => { f with presented := false } } }
    | .recordWrite c => { s with writer := { s.writer with openBatch := popRecordWrite c s.writer.openBatch } }
    | _ => s
  | .ring =>
    let t := { s with ring := { s.ring with toIssue := s.ring.toIssue.tail } }
    match ref with
    | .homeFlush => { t with ring := t.ring.takeSnapshot }
    | _ => t
  | .release =>
    match ref with
    | .releaseLine c => s.releaseGranted (.line c)
    | .releaseMarker c => s.releaseGranted (.marker c)
    | _ => s
  | .recovery =>
    let t := { s with recovery := { s.recovery with toIssue := s.recovery.toIssue.tail } }
    match ref with
    | .replayMarker => t.passRecord
    | _ => t

/-- The arbiter grants the downstream path to the first ready requester while fewer than 32 requests are outstanding
(R173). -/
def State.arbiterGrant (s : State) : State :=
  if s.downstream.outstanding.length < Config.outstandingDepth then
    match s.firstReady with
    | some (p, q, ref) => (s.issue p q ref).granted p ref
    | none => s
  else s

/-! ## Answers (R172, R175, R176) -/

/-- The outstanding entry that carries a transfer tag. -/
def State.entry (s : State) (t : XferTag) : Option OutEntry :=
  s.downstream.outstanding.find? fun e => e.tag = t

/-- Removes the entry that carries a transfer tag; its response timer goes with it (R172). -/
def State.removeEntry (s : State) (t : XferTag) : State :=
  { s with downstream := { s.downstream with outstanding := s.downstream.outstanding.filter fun e => e.tag ≠ t } }

/-- The owner of a request handles its answer by its own rules, in the state it is in (R175, R176). -/
def State.deliver (s : State) (e : OutEntry) (r : DownResponse) : State :=
  match e.ref with
  | .pendingAnswer id => s.countAnswer id e.kind r
  | .tracking k => s.completeRead k r
  | .recordWrite c => s.recordWriteAnswer c e.address r
  | .recordFlush => s.recordFlushAnswer r
  | .homeFlush => s.homeFlushAnswer r
  | .anchorWrite => s.anchorWriteAnswer e.address r
  | .anchorFlush => s.anchorFlushAnswer r
  | .releaseLine c => s.releaseLineAnswer c e.address r
  | .releaseMarker c => s.releaseMarkerAnswer c e.address r
  | .anchorRead copy => s.anchorReadAnswer copy e.address r
  | .scanRead => s.scanAnswer .scanRead e.address r
  | .headerRead => s.scanAnswer .headerRead e.address r
  | .bodyRead o => s.scanAnswer (.bodyRead o) e.address r
  | .replayEntry => s.replayEntryAnswer e.address r
  | .replayMarker => s.replayMarkerAnswer e.address r
  | .zeroWrite => s.zeroAnswer e.address r

/-- Whether an answer carries the data its request asked for: an acknowledged READ carries its length in bytes (9.4). -/
def DownKind.fits (k : DownKind) (r : DownResponse) : Bool :=
  match k, r with
  | .read n, .ack d => d.length = n
  | _, _ => true

/-- The answer of the memory that carries a transfer tag, for one of the requests `mine` names: the entry is removed and the
owner handles the answer (R176). Where no such request is outstanding the command's event does not happen
(DESIGN CHOICE, assumption 6). -/
def State.respond (s : State) (mine : Ref → Bool) (t : XferTag) (r : DownResponse) : Host.Outcome State Fault Refusal :=
  match s.entry t with
  | some e =>
    if mine e.ref then
      if e.kind.fits r then .next ((s.removeEntry t).deliver e r) else .fault .readDataLength
    else .next s
  | none => .next s

/-- The requester that owns a request (R173). -/
def Ref.port : Ref → Port
  | .pendingAnswer _ | .tracking _ => .ingress
  | .recordWrite _ | .recordFlush => .writer
  | .homeFlush | .anchorWrite | .anchorFlush => .ring
  | .releaseLine _ | .releaseMarker _ => .release
  | .anchorRead _ | .scanRead | .headerRead | .bodyRead _ | .replayEntry | .replayMarker | .zeroWrite => .recovery

/-- The initiator of an ingress request (R175). -/
def State.refInitiator (s : State) (ref : Ref) : Option Initiator :=
  match ref with
  | .pendingAnswer id => (s.ingress.answers.find? fun p => p.id = id).map fun p => p.requester.initiator
  | .tracking k => (s.trackEntry k).map fun e => e.requester.initiator
  | _ => none

/-- The expiry of a response timer: the entry is removed, DOWNSTREAM_TIMEOUT pushed, and the owner told of an error. An
expiry that is not due does not happen (R174, R175). -/
def State.responseTimeout (s : State) (t : XferTag) : State :=
  match s.entry t with
  | some e =>
    if s.expired e.issuedAt e.timeout then
      ((s.removeEntry t).push (.downstreamTimeout (s.refInitiator e.ref) e.ref.port e.address)).deliver e .error
    else s
  | none => s

/-! ## The commands -/

/-- ARBITER_GRANT (R173). -/
def execArbiterGrant (s : State) : Host.Outcome State Fault Refusal :=
  .next s.arbiterGrant

/-- Whether a reference is of a record or pad write (R92). -/
def Ref.isRecordWrite : Ref → Bool
  | .recordWrite _ => true
  | _ => false

/-- Whether a reference is of a release write (R126). -/
def Ref.isRelease : Ref → Bool
  | .releaseLine _ | .releaseMarker _ => true
  | _ => false

/-- Whether a reference is of a tracking entry's READ (R73). -/
def Ref.isTracking : Ref → Bool
  | .tracking _ => true
  | _ => false

/-- Whether a reference is of a pending answer's request (R169). -/
def Ref.isPending : Ref → Bool
  | .pendingAnswer _ => true
  | _ => false

/-- Whether a reference is of an anchor copy's READ (R150). -/
def Ref.isAnchorRead : Ref → Bool
  | .anchorRead _ => true
  | _ => false

/-- Whether a reference is of a READ of a record's header or body (R154). -/
def Ref.isRecordRead : Ref → Bool
  | .headerRead | .bodyRead _ => true
  | _ => false

/-- Whether a reference is of a replay or zeroing write (R157). -/
def Ref.isReplay : Ref → Bool
  | .replayEntry | .replayMarker | .zeroWrite => true
  | _ => false

/-- RECORD_WRITE_RESPONSE (R92). -/
def execRecordWriteResponse (t : XferTag) (r : DownResponse) (s : State) : Host.Outcome State Fault Refusal :=
  s.respond Ref.isRecordWrite t r

/-- RECORD_FLUSH_RESPONSE (R94). -/
def execRecordFlushResponse (t : XferTag) (r : DownResponse) (s : State) : Host.Outcome State Fault Refusal :=
  s.respond (fun ref => ref = .recordFlush) t r

/-- RELEASE_WRITE_RESPONSE (R126). -/
def execReleaseWriteResponse (t : XferTag) (r : DownResponse) (s : State) : Host.Outcome State Fault Refusal :=
  s.respond Ref.isRelease t r

/-- HOME_FLUSH_RESPONSE (R114). -/
def execHomeFlushResponse (t : XferTag) (r : DownResponse) (s : State) : Host.Outcome State Fault Refusal :=
  s.respond (fun ref => ref = .homeFlush) t r

/-- ANCHOR_WRITE_RESPONSE (R114). -/
def execAnchorWriteResponse (t : XferTag) (r : DownResponse) (s : State) : Host.Outcome State Fault Refusal :=
  s.respond (fun ref => ref = .anchorWrite) t r

/-- ANCHOR_FLUSH_RESPONSE (R115). -/
def execAnchorFlushResponse (t : XferTag) (r : DownResponse) (s : State) : Host.Outcome State Fault Refusal :=
  s.respond (fun ref => ref = .anchorFlush) t r

/-- READ_RESPONSE (R73). -/
def execReadResponse (t : XferTag) (r : DownResponse) (s : State) : Host.Outcome State Fault Refusal :=
  s.respond Ref.isTracking t r

/-- INGRESS_RESPONSE (R169). -/
def execIngressResponse (t : XferTag) (r : DownResponse) (s : State) : Host.Outcome State Fault Refusal :=
  s.respond Ref.isPending t r

/-- LATE_RESPONSE_DISCARD (R176): a response with no matching entry is discarded. Nothing matches it, so no owner is told;
where an entry does carry the tag the response is not late, and it is the event of the command of its owner
(DESIGN CHOICE, assumption 6). -/
def execLateResponseDiscard (t : XferTag) (r : DownResponse) (s : State) : Host.Outcome State Fault Refusal :=
  s.respond (fun _ => false) t r

/-- RESPONSE_TIMER_EXPIRY (R175). -/
def execResponseTimerExpiry (t : XferTag) (s : State) : Host.Outcome State Fault Refusal :=
  .next (s.responseTimeout t)

/-- ANCHOR_READ_RESPONSE (R150). -/
def execAnchorReadResponse (t : XferTag) (r : DownResponse) (s : State) : Host.Outcome State Fault Refusal :=
  s.respond Ref.isAnchorRead t r

/-- SCAN_READ_RESPONSE (R152). -/
def execScanReadResponse (t : XferTag) (r : DownResponse) (s : State) : Host.Outcome State Fault Refusal :=
  s.respond (fun ref => ref = .scanRead) t r

/-- RECORD_READ_RESPONSE (R154). -/
def execRecordReadResponse (t : XferTag) (r : DownResponse) (s : State) : Host.Outcome State Fault Refusal :=
  s.respond Ref.isRecordRead t r

/-- REPLAY_WRITE_RESPONSE (R157). -/
def execReplayWriteResponse (t : XferTag) (r : DownResponse) (s : State) : Host.Outcome State Fault Refusal :=
  s.respond Ref.isReplay t r

end Sys2Proof.Machine
end

