-- ==== Sys2Proof/Machine/Management.lean ====
section
/-! DEFINITION. The management port: register addresses and values, register writes with their checks, CONTROL, and the
event window (chapter 11, R6, R7, R140, R141, R189, R190). -/

namespace Sys2Proof.Machine

/-! ## The register map (R194, R196) -/

/-- The registers with their addresses. -/
def registerMap : List (Nat × Register) :=
  [(0x0000, .mode), (0x0004, .control), (0x0008, .eventCount), (0x000C, .eventPop),
   (0x0010, .eventWord 0), (0x0014, .eventWord 1), (0x0018, .eventWord 2), (0x001C, .eventWord 3),
   (0x0020, .eventWord 4), (0x0024, .eventWord 5), (0x0028, .eventWord 6),
   (0x0040, .occupancy), (0x0044, .ringHead), (0x0048, .ringDurableTail), (0x004C, .ringLive),
   (0x0050, .sequenceLo .nextSequence), (0x0054, .sequenceHi .nextSequence),
   (0x0058, .sequenceLo .durableTailSequence), (0x005C, .sequenceHi .durableTailSequence),
   (0x0080, .journalBaseLo), (0x0084, .journalBaseHi), (0x0088, .ringSizeLog2), (0x008C, .journalEpoch),
   (0x0090, .timebaseDiv), (0x0094, .anchorInterval), (0x0098, .flushBatch), (0x009C, .stallTimeout),
   (0x00A0, .orphanTimeout), (0x00A4, .downstreamTimeout), (0x0100, .windowSelect),
   (0x0104, .windowField .mode), (0x0108, .windowField .baseLo), (0x010C, .windowField .baseHi),
   (0x0110, .windowField .maskLo), (0x0114, .windowField .maskHi),
   (0x0118, .windowField .markerPatternLo), (0x011C, .windowField .markerPatternHi),
   (0x0120, .windowField .markerMaskLo), (0x0124, .windowField .markerMaskHi),
   (0x0128, .windowField .signature), (0x012C, .windowField .lengthLimit), (0x0130, .windowField .idleTimeout),
   (0x0134, .windowField .policy)]

/-- The register an address names, if it names one (R193). -/
def registerAt (a : BitVec 16) : Option Register := registerMap.lookup a.toNat

/-! ## What a register reads (R194–R197) -/

/-- The low 32 bits of an address. -/
def addrLo (a : Addr) : Word32 := a.setWidth 32

/-- The high 16 bits of an address, as a word. -/
def addrHi (a : Addr) : Word32 := (a >>> 32).setWidth 32

/-- An address with its low word replaced. -/
def withLo (a : Addr) (v : Word32) : Addr := (a &&& 0xFFFF00000000#48) ||| v.setWidth 48

/-- An address with its high 16 bits replaced. -/
def withHi (a : Addr) (v : Word32) : Addr := (a &&& 0x0000FFFFFFFF#48) ||| (v.setWidth 48 <<< 32)

/-- The code of a window mode (R196). -/
def WindowMode.value : WindowMode → Nat
  | .off => 0 | .pass => 1 | .journal => 2

/-- The value of WIN_POLICY (R196). -/
def policyValue (e : Window) : Nat :=
  (match e.fullPolicy with | .stall => 1 | .fail => 2) + 4 * (match e.ackMode with | .early => 1 | .durable => 2) +
    (if e.durableEvent then 16 else 0) + (if e.retiredEvent then 32 else 0) + (if e.abortedEvent then 64 else 0)

/-- What a window field register reads of an entry (R2, R196). -/
def windowFieldValue (e : Window) : WindowRegister → Word32
  | .mode => BitVec.ofNat 32 e.mode.value
  | .baseLo => addrLo e.base
  | .baseHi => addrHi e.base
  | .maskLo => addrLo e.mask
  | .maskHi => addrHi e.mask
  | .markerPatternLo => addrLo e.markerPattern
  | .markerPatternHi => addrHi e.markerPattern
  | .markerMaskLo => addrLo e.markerMask
  | .markerMaskHi => addrHi e.markerMask
  | .signature => e.signature.setWidth 32
  | .lengthLimit => BitVec.ofNat 32 e.lengthLimit
  | .idleTimeout => e.idleTimeout.setWidth 32
  | .policy => BitVec.ofNat 32 (policyValue e)

/-- The 64-bit status register of a pair (R196). -/
def State.pairValue (s : State) : SequencePair → Word64
  | .nextSequence => s.ring.nextSequence
  | .durableTailSequence => s.ring.durableSequence

/-- The number of contexts not FREE (R17, R194). -/
def State.contextsInUse (s : State) : Nat :=
  (Config.contexts.filter fun c => !(s.ctx c).isFree).length

/-- The number of ACTIVE tracking entries (R66, R194). -/
def State.entriesActive (s : State) : Nat :=
  (s.tracking.toList.filter Option.isSome).length

/-- What a READ of a register shifts out, before any effect of the read (R194). EVENT_POP's value is the one its own read
returns, `State.popEvent`; here it is word 0 of the event window. `State.readRegister` is the READ frame. -/
def State.registerValue (s : State) : Register → Word32
  | .mode => BitVec.ofNat 32 (s.mode.code + if s.pfwarn then 256 else 0)
  | .control => if s.settings.irqEnable then 16 else 0
  | .eventCount => BitVec.ofNat 32 (s.events.entries.length + if s.events.overflow then 2 ^ 31 else 0)
  | .eventPop => eventWord s.events.window 0
  | .eventWord i => eventWord s.events.window i.val
  | .occupancy => BitVec.ofNat 32 (s.contextsInUse + 2 ^ 8 * s.hold.length + 2 ^ 24 * s.entriesActive)
  | .ringHead => BitVec.ofNat 32 s.ring.head
  | .ringDurableTail => BitVec.ofNat 32 s.ring.durableOffset
  | .ringLive => BitVec.ofNat 32 s.ring.live
  | .sequenceLo p => (s.pairValue p).setWidth 32
  | .sequenceHi .nextSequence => s.settings.nextSequenceShadow
  | .sequenceHi .durableTailSequence => s.settings.durableTailShadow
  | .journalBaseLo => addrLo s.settings.journalBase
  | .journalBaseHi => addrHi s.settings.journalBase
  | .ringSizeLog2 => BitVec.ofNat 32 s.settings.ringSizeLog2
  | .journalEpoch => s.settings.journalEpoch
  | .timebaseDiv => BitVec.ofNat 32 s.settings.timebaseDiv
  | .anchorInterval => BitVec.ofNat 32 s.settings.anchorInterval
  | .flushBatch => BitVec.ofNat 32 s.settings.flushBatch
  | .stallTimeout => BitVec.ofNat 32 s.settings.stallTimeout
  | .orphanTimeout => BitVec.ofNat 32 s.settings.orphanTimeout
  | .downstreamTimeout => BitVec.ofNat 32 s.settings.downstreamTimeout
  | .windowSelect => BitVec.ofNat 32 s.settings.windowSelect.val
  | .windowField r => windowFieldValue (s.window s.settings.windowSelect) r

/-! ## Replies -/

/-- The bridge shifts out the value and status of a READ frame (R192). -/
def State.readReply (s : State) (v : Word32) (st : Status) : State := { s with reply := some ⟨some v, some st⟩ }

/-- The bridge shifts out the status of a WRITE frame (R192). -/
def State.writeReply (s : State) (st : Status) : State := { s with reply := some ⟨none, some st⟩ }

/-- The bridge has nothing to shift out: the frame was cut short before it was taken (R192). -/
def State.noReply (s : State) : State := { s with reply := some ⟨none, none⟩ }

/-- A frame of `n` bytes that does not reach byte 7 shifts out no status (R192). -/
def State.cutReply (s : State) (n : Nat) : State :=
  if n < 8 then { s with reply := s.reply.map fun r => { r with status := none } } else s

/-- The code of a status byte (R193). -/
def Status.code : Status → Byte
  | .ok => 0x00 | .busy => 0x01 | .badAddr => 0x02

/-- The bytes of a word in the order in which a frame carries them, most significant first (R192). -/
def wordBytes (v : Word32) : List Byte := [v.extractLsb' 24 8, v.extractLsb' 16 8, v.extractLsb' 8 8, v.extractLsb' 0 8]

/-- What the bridge shifts out on MISO during a frame of `n` bytes: nothing the manual gives during the command and the address,
nor during the data of a WRITE; the register value of a READ in bytes 3 to 6; the status in byte 7; and zero after it (R192). -/
def Reply.shifted (r : Reply) (n : Nat) : List (Option Byte) :=
  (List.replicate 3 none ++ ((r.data.map fun v => (wordBytes v).map some).getD (List.replicate 4 none)) ++
    [r.status.map Status.code] ++ List.replicate (n - 8) (some 0)).take n

/-! ## Window field writes (R2, R6, R7, R196) -/

/-- A HI word with any of bits 31:16 set is out of range (R7, R194). -/
def hiInRange (v : Word32) : Bool := v.toNat < 2 ^ 16

/-- A window entry with one field register written, or nothing where the value is out of range (R2, R7, R196). -/
def Window.write (e : Window) (r : WindowRegister) (v : Word32) : Option Window :=
  match r with
  | .mode =>
    match v.toNat % 4 with
    | 0 => some { e with mode := .off }
    | 1 => some { e with mode := .pass }
    | 2 => some { e with mode := .journal }
    | _ => none
  | .baseLo => some { e with base := withLo e.base (v &&& 0xFFFFFFC0#32) }
  | .baseHi => if hiInRange v then some { e with base := withHi e.base v } else none
  | .maskLo => some { e with mask := withLo e.mask (v &&& 0xFFFFFFC0#32) }
  | .maskHi => if hiInRange v then some { e with mask := withHi e.mask v } else none
  | .markerPatternLo => some { e with markerPattern := withLo e.markerPattern (v &&& 0xFFFFFFF8#32) }
  | .markerPatternHi => if hiInRange v then some { e with markerPattern := withHi e.markerPattern v } else none
  | .markerMaskLo => some { e with markerMask := withLo e.markerMask (v &&& 0xFFFFFFF8#32) }
  | .markerMaskHi => if hiInRange v then some { e with markerMask := withHi e.markerMask v } else none
  | .signature => some { e with signature := v.setWidth 16 }
  | .lengthLimit => if 1 ≤ v.toNat ∧ v.toNat ≤ 256 then some { e with lengthLimit := v.toNat } else none
  | .idleTimeout => some { e with idleTimeout := v.setWidth 16 }
  | .policy =>
    let full : Option FullPolicy := match v.toNat % 4 with
      | 1 => some .stall
      | 2 => some .fail
      | _ => none
    let ack : Option AckMode := match v.toNat / 4 % 4 with
      | 1 => some .early
      | 2 => some .durable
      | _ => none
    match full, ack with
    | some f, some a =>
      some { e with fullPolicy := f, ackMode := a, durableEvent := v.getLsbD 4, retiredEvent := v.getLsbD 5,
                    abortedEvent := v.getLsbD 6 }
    | _, _ => none

/-- A WRITE frame to a window field register of the selected entry: BUSY unless every context is FREE, then BADADDR for a
value out of range, else the field takes the value (R6, R7). -/
def State.writeWindow (s : State) (r : WindowRegister) (v : Word32) : State :=
  if s.allFree then
    match (s.window s.settings.windowSelect).write r v with
    | some e => State.writeReply { s with windows := s.windows.set s.settings.windowSelect e } .ok
    | none => s.writeReply .badAddr
  else s.writeReply .busy

/-! ## CONTROL (R140, R141, R190, R195) -/

/-- Whether the journal region passes the address space (R104). -/
def State.regionPasses (s : State) : Bool :=
  Config.addressSpace < s.settings.journalBase.toNat + Config.anchorPage + s.ringSize

/-- The status of a CONTROL write, by the checks of R195 in their order. -/
def State.controlStatus (s : State) (v : Word32) : Status :=
  if (v.getLsbD 0 && v.getLsbD 2) || (v.getLsbD 4 && v.getLsbD 5) then .badAddr
  else if (v.getLsbD 0 && s.mode ≠ .init) || (v.getLsbD 2 && (s.mode = .init || s.mode = .recovering)) then .busy
  else if v.getLsbD 0 && s.regionPasses then .badAddr
  else .ok

/-- The change a CONTROL write makes to IRQ_ENABLE (R195). -/
def State.controlIrq (s : State) (v : Word32) : State :=
  if v.getLsbD 4 then { s with settings := { s.settings with irqEnable := true } }
  else if v.getLsbD 5 then { s with settings := { s.settings with irqEnable := false } }
  else s

/-- CLEAR_OVERFLOW of a CONTROL write (R190). -/
def State.controlOverflow (s : State) (v : Word32) : State :=
  if v.getLsbD 3 then { s with events := { s.events with overflow := false } } else s

/-- START carried out: the mode becomes RECOVERING and anchor selection begins (R140, R150). -/
def State.startRecovery (s : State) (format : Bool) : State :=
  (s.setMode .recovering).beginAnchors format

/-- START or WARM_RESET of a CONTROL write (R140, R141). -/
def State.controlCommand (s : State) (v : Word32) : State :=
  if v.getLsbD 0 then s.startRecovery (v.getLsbD 1)
  else if v.getLsbD 2 then s.beginWarmReset
  else s

/-- A CONTROL write, carried out whole or not at all (R195). -/
def State.controlWrite (s : State) (v : Word32) : State :=
  match s.controlStatus v with
  | .ok => (((s.controlIrq v).controlOverflow v).controlCommand v).writeReply .ok
  | st => s.writeReply st

/-! ## Other register writes (R193, R194) -/

/-- Whether a register is read-only (R194). -/
def Register.readOnly : Register → Bool
  | .mode | .eventCount | .eventPop | .eventWord _ | .occupancy | .ringHead | .ringDurableTail | .ringLive
  | .sequenceLo _ | .sequenceHi _ => true
  | _ => false

/-- Whether a register may be written in INIT only (R193). -/
def Register.initOnly : Register → Bool
  | .journalBaseLo | .journalBaseHi | .ringSizeLog2 | .journalEpoch | .timebaseDiv => true
  | _ => false

/-- A value within a range, as a number. -/
def inRange (v : Word32) (low high : Nat) : Option Nat :=
  if low ≤ v.toNat ∧ v.toNat ≤ high then some v.toNat else none

/-- The registers with a numeric or address register written, or nothing where the value is out of range (R104, R194). -/
def Settings.write (g : Settings) (r : Register) (v : Word32) : Option Settings :=
  match r with
  | .journalBaseLo => some { g with journalBase := withLo g.journalBase (v &&& 0xFFFFF000#32) }
  | .journalBaseHi => if hiInRange v then some { g with journalBase := withHi g.journalBase v } else none
  | .ringSizeLog2 => (inRange v 16 30).map fun n => { g with ringSizeLog2 := n }
  | .journalEpoch => some { g with journalEpoch := v }
  | .timebaseDiv => (inRange v 1 65535).map fun n => { g with timebaseDiv := n }
  | .anchorInterval => (inRange v 1 64).map fun n => { g with anchorInterval := n }
  | .flushBatch => (inRange v 1 8).map fun n => { g with flushBatch := n }
  | .stallTimeout => (inRange v 1 65535).map fun n => { g with stallTimeout := n }
  | .orphanTimeout => (inRange v 1 65535).map fun n => { g with orphanTimeout := n }
  | .downstreamTimeout => (inRange v 1 65535).map fun n => { g with downstreamTimeout := n }
  | .windowSelect => if h : v.toNat < 8 then some { g with windowSelect := ⟨v.toNat, h⟩ } else none
  | _ => none

/-- ANCHOR_INTERVAL coming down to the retirement count while an update is in flight is a trigger arising then, and sets
the again flag (R112; DEDUCED, assumption 11). -/
def Ring.intervalChanged (g : Ring) (old new : Nat) : Ring :=
  { g with again := g.again || (g.update ≠ .idle && g.retirements < old && new ≤ g.retirements) }

/-- A WRITE frame to a register that is neither CONTROL nor a window field. After a change of ANCHOR_INTERVAL the ring manager checks
its start conditions (R112, R193). -/
def State.writeSetting (s : State) (r : Register) (v : Word32) : State :=
  if r.readOnly then s.writeReply .badAddr
  else if r.initOnly && s.mode ≠ .init then s.writeReply .busy
  else
    match s.settings.write r v with
    | some g =>
      let t := { s with settings := g, ring := s.ring.intervalChanged s.settings.anchorInterval g.anchorInterval }
      (if g.anchorInterval = s.settings.anchorInterval then t else t.startUpdate).writeReply .ok
    | none => s.writeReply .badAddr

/-- A WRITE frame to a register address (R193). -/
def State.writeRegister (s : State) (a : BitVec 16) (v : Word32) : State :=
  match registerAt a with
  | none => s.writeReply .badAddr
  | some .control => s.controlWrite v
  | some (.windowField r) => s.writeWindow r v
  | some r => s.writeSetting r v

/-! ## Reads with an effect (R189, R196) -/

/-- A READ of EVENT_POP: the oldest entry is removed into the event window, or the window is cleared to NONE, and word 0 is
returned (R189). -/
def State.popEvent (s : State) : State :=
  match s.events.entries with
  | [] => State.readReply { s with events := { s.events with window := none } } (eventWord none 0) .ok
  | e :: es => State.readReply { s with events := { s.events with entries := es, window := some e } } (eventWord (some e) 0) .ok

/-- A READ of a _LO word: it returns the low word and captures the high word of the same value (R196). -/
def State.readSequenceLo (s : State) (p : SequencePair) : State :=
  let v := s.pairValue p
  let hi : Word32 := (v >>> 32).setWidth 32
  let g := match p with
    | .nextSequence => { s.settings with nextSequenceShadow := hi }
    | .durableTailSequence => { s.settings with durableTailShadow := hi }
  State.readReply { s with settings := g } (v.setWidth 32) .ok

/-! ## Management frames (R192, R193) -/

/-- A READ frame of a register address: the register's value, with the effect that a READ of EVENT_POP and of a _LO word has, or
zero with BADADDR where the address names no register (R193). -/
def State.readRegister (s : State) (a : BitVec 16) : State :=
  match registerAt a with
  | none => s.readReply 0 .badAddr
  | some .eventPop => s.popEvent
  | some (.sequenceLo p) => s.readSequenceLo p
  | some r => s.readReply (s.registerValue r) .ok

/-- A management frame, given by the whole bytes shifted in between the fall and the rise of CS_N: the command, the address with
its high byte first, and the data with its most significant byte first. A READ is taken when byte 2 is complete, a WRITE when
byte 6 is; a frame cut short before has no effect, and one with another command byte touches no register (R192). -/
def State.frame (s : State) (f : List Byte) : State :=
  match f with
  | c :: hi :: lo :: rest =>
    if c = Config.readByte then (s.readRegister (hi ++ lo)).cutReply f.length
    else if c = Config.writeByte then
      match rest with
      | d3 :: d2 :: d1 :: d0 :: _ => (s.writeRegister (hi ++ lo) (d3 ++ d2 ++ d1 ++ d0)).cutReply f.length
      | _ => s.noReply
    else (s.readReply 0 .badAddr).cutReply f.length
  | _ => s.noReply

/-! ## The commands -/

/-- START (R140): a CONTROL write with bit 0 set. -/
def execStart (v : Word32) (s : State) : Host.Outcome State Fault Refusal :=
  .next (s.controlWrite (v ||| 0x01#32))

/-- FORMAT (R151): a CONTROL write with bits 0 and 1 set. -/
def execFormat (v : Word32) (s : State) : Host.Outcome State Fault Refusal :=
  .next (s.controlWrite (v ||| 0x03#32))

/-- WARM_RESET (R146): a CONTROL write with bit 2 set. -/
def execWarmReset (v : Word32) (s : State) : Host.Outcome State Fault Refusal :=
  .next (s.controlWrite (v ||| 0x04#32))

/-- CLEAR_OVERFLOW (R190): a CONTROL write with bit 3 set. -/
def execClearOverflow (v : Word32) (s : State) : Host.Outcome State Fault Refusal :=
  .next (s.controlWrite (v ||| 0x08#32))

/-- IRQ_ENABLE_SET (R195): a CONTROL write with bit 4 set. -/
def execIrqEnableSet (v : Word32) (s : State) : Host.Outcome State Fault Refusal :=
  .next (s.controlWrite (v ||| 0x10#32))

/-- IRQ_ENABLE_CLEAR (R195): a CONTROL write with bit 5 set. -/
def execIrqEnableClear (v : Word32) (s : State) : Host.Outcome State Fault Refusal :=
  .next (s.controlWrite (v ||| 0x20#32))

/-- EVENT_POP (R189). -/
def execEventPop (s : State) : Host.Outcome State Fault Refusal :=
  .next s.popEvent

/-- SEQUENCE_LO_READ (R196). -/
def execSequenceLoRead (p : SequencePair) (s : State) : Host.Outcome State Fault Refusal :=
  .next (s.readSequenceLo p)

/-- WINDOW_FIELD_WRITE (R6). -/
def execWindowFieldWrite (r : WindowRegister) (v : Word32) (s : State) : Host.Outcome State Fault Refusal :=
  .next (s.writeWindow r v)

/-- REGISTER_WRITE (R193). -/
def execRegisterWrite (a : BitVec 16) (v : Word32) (s : State) : Host.Outcome State Fault Refusal :=
  .next (s.writeRegister a v)

/-- BAD_COMMAND_FRAME (R192): a management frame as the bytes of its operand. Where the command byte is neither READ nor WRITE
no register is touched, and zero data and the status BADADDR are shifted out; a READ or WRITE frame in this form is carried out
as R192 and R193 say (DESIGN CHOICE, assumption 18). -/
def execBadCommandFrame (f : List Byte) (s : State) : Host.Outcome State Fault Refusal :=
  .next (s.frame f)

end Sys2Proof.Machine
end

