-- ==== Sys2Proof/Machine/Lines.lean ====
section
/-! DEFINITION. The input lines: RESET_N, PFWARN and REFCLK (R42, R142, R180, "Time base"). -/

namespace Sys2Proof.Machine

/-- Cold reset: every block returns to its cold reset values, no request is answered, and the level of the PFWARN input
stands as it is (R42, R180). The queue of commands is the sender's, not the part's. -/
def State.coldReset (s : State) : State :=
  { State.reset with pfwarn := s.pfwarn, pending := s.pending }

/-- An assertion of PFWARN, taken where the level changes (R180). -/
def State.assertPfwarn (s : State) : State :=
  if s.pfwarn then s
  else
    let t := { s with pfwarn := true }
    match s.mode with
    | .online => t.enterDraining
    | .init | .recovering | .draining | .drained | .faulted => t

/-- A deassertion of PFWARN, taken where the level changes; after the change of mode the ring manager checks its start conditions
(R112, R180, R184). -/
def State.deassertPfwarn (s : State) : State :=
  if s.pfwarn then
    let t := { s with pfwarn := false }
    match s.mode with
    | .draining | .drained => (t.setMode .online).startUpdate
    | .init | .recovering | .online | .faulted => t
  else s

/-- One REFCLK period: the timebase rises by one at the end of each microsecond, and the divider then in TIMEBASE_DIV gives
the length of the next ("Time base"). -/
def State.tick (s : State) : State :=
  if s.refclkLeft ≤ 1 then { s with timebase := s.timebase + 1, refclkLeft := s.settings.timebaseDiv }
  else { s with refclkLeft := s.refclkLeft - 1 }

/-- COLD_RESET (R42). -/
def execColdReset (s : State) : Host.Outcome State Fault Refusal :=
  .next s.coldReset

/-- PFWARN_ASSERTED (R180). -/
def execPfwarnAsserted (s : State) : Host.Outcome State Fault Refusal :=
  .next s.assertPfwarn

/-- PFWARN_DEASSERTED (R184). -/
def execPfwarnDeasserted (s : State) : Host.Outcome State Fault Refusal :=
  .next s.deassertPfwarn

end Sys2Proof.Machine
end

