-- ==== Sys2Proof/Machine/Dispatch.lean ====
section
/-! DEFINITION. One arm per command. -/

namespace Sys2Proof.Machine

def exec (i : Instr) (s : State) : Host.Outcome State Fault Refusal :=
  match i with
  -- the input lines
  | .coldReset => Sys2Proof.Machine.execColdReset s
  | .pfwarnAsserted => Sys2Proof.Machine.execPfwarnAsserted s
  | .pfwarnDeasserted => Sys2Proof.Machine.execPfwarnDeasserted s
  -- the ingress side and the context timers
  | .upstreamRequest request => Sys2Proof.Machine.execUpstreamRequest request s
  | .headEvaluation => Sys2Proof.Machine.execHeadEvaluation s
  | .idleTimerExpiry context => Sys2Proof.Machine.execIdleTimerExpiry context s
  | .orphanTimerExpiry context => Sys2Proof.Machine.execOrphanTimerExpiry context s
  | .stallTimerExpiry => Sys2Proof.Machine.execStallTimerExpiry s
  -- the journal writer, the arbiter and the release engine
  | .takeCommitHead => Sys2Proof.Machine.execTakeCommitHead s
  | .arbiterGrant => Sys2Proof.Machine.execArbiterGrant s
  | .recordWriteResponse tag response => Sys2Proof.Machine.execRecordWriteResponse tag response s
  | .recordFlushResponse tag response => Sys2Proof.Machine.execRecordFlushResponse tag response s
  | .releaseTakeHead => Sys2Proof.Machine.execReleaseTakeHead s
  | .releaseWriteResponse tag response => Sys2Proof.Machine.execReleaseWriteResponse tag response s
  | .retirement => Sys2Proof.Machine.execRetirement s
  -- the ring manager and the drain
  | .anchorUpdateStart => Sys2Proof.Machine.execAnchorUpdateStart s
  | .homeFlushResponse tag response => Sys2Proof.Machine.execHomeFlushResponse tag response s
  | .anchorWriteResponse tag response => Sys2Proof.Machine.execAnchorWriteResponse tag response s
  | .anchorFlushResponse tag response => Sys2Proof.Machine.execAnchorFlushResponse tag response s
  | .drainComplete => Sys2Proof.Machine.execDrainComplete s
  -- the answers of the memory
  | .readResponse tag response => Sys2Proof.Machine.execReadResponse tag response s
  | .ingressResponse tag response => Sys2Proof.Machine.execIngressResponse tag response s
  | .lateResponseDiscard tag response => Sys2Proof.Machine.execLateResponseDiscard tag response s
  | .responseTimerExpiry tag => Sys2Proof.Machine.execResponseTimerExpiry tag s
  -- recovery
  | .anchorReadResponse tag response => Sys2Proof.Machine.execAnchorReadResponse tag response s
  | .scanReadResponse tag response => Sys2Proof.Machine.execScanReadResponse tag response s
  | .recordReadResponse tag response => Sys2Proof.Machine.execRecordReadResponse tag response s
  | .replayWriteResponse tag response => Sys2Proof.Machine.execReplayWriteResponse tag response s
  | .warmResetClearing => Sys2Proof.Machine.execWarmResetClearing s
  -- the management port
  | .start value => Sys2Proof.Machine.execStart value s
  | .format value => Sys2Proof.Machine.execFormat value s
  | .warmReset value => Sys2Proof.Machine.execWarmReset value s
  | .clearOverflow value => Sys2Proof.Machine.execClearOverflow value s
  | .irqEnableSet value => Sys2Proof.Machine.execIrqEnableSet value s
  | .irqEnableClear value => Sys2Proof.Machine.execIrqEnableClear value s
  | .eventPop => Sys2Proof.Machine.execEventPop s
  | .sequenceLoRead pair => Sys2Proof.Machine.execSequenceLoRead pair s
  | .windowFieldWrite register value => Sys2Proof.Machine.execWindowFieldWrite register value s
  | .registerWrite address value => Sys2Proof.Machine.execRegisterWrite address value s
  | .badCommandFrame frame => Sys2Proof.Machine.execBadCommandFrame frame s

end Sys2Proof.Machine
end

