-- ==== Sys2Proof/Machine/Step.lean ====
section
/-! DEFINITION. One step: the command at the front of the queue, or one REFCLK period where none waits. -/

namespace Sys2Proof.Machine

/-- Takes the command at the front of the queue and carries it out with the queue's rest. On an empty queue one REFCLK period
passes (DESIGN CHOICE, assumption 1). -/
def step (s : State) : Host.Outcome State Fault Refusal :=
  match s.pending with
  | [] => .next s.tick
  | c :: rest => exec c { s with pending := rest }

/-- The state with the command a table word spells put at the front of the queue; a word that spells none changes nothing
(DEDUCED, assumption 2). -/
def State.withFetchWord (s : State) (nbits w : Nat) : State :=
  match decodeTableWord nbits w with
  | some c => { s with pending := c :: s.pending }
  | none => s

end Sys2Proof.Machine
end

