-- ==== Sys2Proof/Safety.lean ====
section
/-! DEFINITION. What a safe run is: the laws every state that a run reaches keeps, and the absence of a stop. -/

namespace Sys2Proof.Machine

/-! ## Vocabulary -/

/-- Whether the recovery engine is in CLOSE (R149). -/
def Phase.isClose : Phase → Bool
  | .close _ => true
  | _ => false

/-- Whether the recovery engine is in a phase that follows the clearing of the contexts (R148, R150). -/
def Phase.isCleared : Phase → Bool
  | .anchors .. | .scan _ | .close _ => true
  | .idle | .quiesce => false

/-- Whether a context is FAILED. -/
def Context.isFailed : Context → Bool
  | .failed .. => true
  | _ => false

/-- Whether a context is QUEUED. -/
def Context.isQueued : Context → Bool
  | .queued .. => true
  | _ => false

/-- Whether a context is WRITING. -/
def Context.isWriting : Context → Bool
  | .writing .. => true
  | _ => false

/-- Whether a context is DURABLE. -/
def Context.isDurable : Context → Bool
  | .durable .. => true
  | _ => false

/-- Whether a context is RELEASING. -/
def Context.isReleasing : Context → Bool
  | .releasing .. => true
  | _ => false

/-- The owner fields of a context that is not FREE (R17). -/
def Context.owner? : Context → Option Owner
  | .free => none
  | .opened o .. | .failed o .. | .queued o .. | .writing o .. | .durable o .. | .releasing o .. => some o

/-- The contexts whose records are sealed, oldest first: releasing, durable, and written or being written. -/
def State.sealed (s : State) : List ContextIx :=
  s.release.releasing.map Progress.context ++ s.release.queue ++ s.unflushed

/-- The bytes of the records of the sealed contexts (R85). -/
def State.sealedBytes (s : State) : Nat :=
  (s.sealed.map fun c => recordLength (s.entryCount c)).sum

/-- Whether sequences are consecutive from one on (R81). -/
def consecutiveFrom : Word64 → List (Option Word64) → Bool
  | _, [] => true
  | q, x :: xs => x = some q && consecutiveFrom (q + 1) xs

/-! ## Words the statements use -/

/-- The command by which the memory answers a request its owner knows by a reference. -/
def Ref.responseCommand (t : XferTag) (r : DownResponse) : Ref → Instr
  | .pendingAnswer _ => .ingressResponse t r
  | .tracking _ => .readResponse t r
  | .recordWrite _ => .recordWriteResponse t r
  | .recordFlush => .recordFlushResponse t r
  | .homeFlush => .homeFlushResponse t r
  | .anchorWrite => .anchorWriteResponse t r
  | .anchorFlush => .anchorFlushResponse t r
  | .releaseLine _ | .releaseMarker _ => .releaseWriteResponse t r
  | .anchorRead _ => .anchorReadResponse t r
  | .scanRead => .scanReadResponse t r
  | .headerRead | .bodyRead _ => .recordReadResponse t r
  | .replayEntry | .replayMarker | .zeroWrite => .replayWriteResponse t r

/-- The transfer tag and the answer of a command that is an answer of the memory. -/
def responseOf : Instr → Option (XferTag × DownResponse)
  | .recordWriteResponse t r | .recordFlushResponse t r | .releaseWriteResponse t r | .homeFlushResponse t r
  | .anchorWriteResponse t r | .anchorFlushResponse t r | .readResponse t r | .ingressResponse t r
  | .lateResponseDiscard t r | .anchorReadResponse t r | .scanReadResponse t r | .recordReadResponse t r
  | .replayWriteResponse t r => some (t, r)
  | .coldReset | .pfwarnAsserted | .pfwarnDeasserted | .upstreamRequest _ | .headEvaluation | .idleTimerExpiry _
  | .orphanTimerExpiry _ | .stallTimerExpiry | .takeCommitHead | .arbiterGrant | .releaseTakeHead | .retirement
  | .anchorUpdateStart | .drainComplete | .responseTimerExpiry _ | .warmResetClearing | .start _ | .format _
  | .warmReset _ | .clearOverflow _ | .irqEnableSet _ | .irqEnableClear _ | .eventPop | .sequenceLoRead _
  | .windowFieldWrite _ _ | .registerWrite _ _ | .badCommandFrame _ => none

/-- The head request that is held neither by a timed wait nor by the arbiter wait (R165, R166). -/
def State.HeadIs (s : State) (r : UpRequest) : Prop :=
  s.ingress.queue.head? = some r ∧ s.ingress.wait = none ∧ s.ingress.handOver = []

/-- Whether requests in journal windows are evaluated rather than put in the mode wait (R143). -/
def Mode.evaluates : Mode → Bool
  | .init | .recovering => false
  | .online | .draining | .drained | .faulted => true

/-- The state with events pushed one after another (R187). -/
def State.pushAll (s : State) (bs : List EventBody) : State := bs.foldl State.push s

/-- Whether an event ends the head's wait: `freed` says that a slot goes FREE, `left` which contexts leave OPEN, and `modeEnds`
that the mode becomes one that ends the mode wait (R52, R60, R71, R144). -/
def HeadWait.endedBy (freed : Bool) (left : ContextIx → Bool) (modeEnds : Bool) : HeadWait → Bool
  | .mode _ => modeEnds
  | .slot c _ => freed || left c
  | .bare .. | .tracking _ => freed

/-- The ingress side after contexts failed for a reason: the head's wait has ended where an event ended it, and its walk holds
the reason where it had placed pieces into a context that left OPEN (R55, R167; that the first reason recorded stands is log entry
8). -/
def Ingress.afterFailure (g : Ingress) (r : FailReason) (freed : Bool) (left : ContextIx → Bool) (modeEnds : Bool) : Ingress :=
  { g with
    wait := g.wait.filter fun w => !w.endedBy freed left modeEnds
    walk := g.walk.map fun k => if k.placed.any left ∧ k.failed = none then { k with failed := some r } else k }

/-- A context after a failure at a time, where it was OPEN (R27, R28). -/
def Context.failedBy (r : FailReason) (now : Word64) (orphan : Nat) : Context → Context
  | .opened o _ _ _ => .failed o r now (some orphan)
  | c => c

/-- The TXN_FAILED events of the OPEN contexts in ascending index, for a cause with no address (R27). -/
def State.openFailures (s : State) (r : FailReason) : List EventBody :=
  Config.contexts.filterMap fun c =>
    match s.ctx c with
    | .opened o _ _ _ => some (.txnFailed c o.initiator o.window none r none (s.entryCount c))
    | _ => none

/-- The TXN_FAILED events of the contexts a journal fault frees, in their order (R38). -/
def State.sealingFailures (s : State) : List EventBody :=
  s.sealing.filterMap fun c =>
    match s.ctx c with
    | .queued o _ _ _ => some (.txnFailed c o.initiator o.window none .journal none (s.entryCount c))
    | .writing o _ _ pl _ => some (.txnFailed c o.initiator o.window (some pl.sequence) .journal none (s.entryCount c))
    | _ => none

/-- The pending commit response of a context (R34). -/
def Context.pending? : Context → Option Requester
  | .queued _ _ _ p | .writing _ _ _ _ p => p
  | _ => none

/-- A 48-bit field with its low word written: the low bits below `unit` are stored as zero (R2, R104, R196). -/
def lowWritten (unit : Nat) (a : Addr) (v : Word32) : Addr :=
  BitVec.ofNat 48 (a.toNat / 2 ^ 32 * 2 ^ 32 + v.toNat / unit * unit)

/-- A 48-bit field with its high word written, where the word lies in range (R7, R194). -/
def highWritten (a : Addr) (v : Word32) : Option Addr :=
  if v.toNat < 2 ^ 16 then some (BitVec.ofNat 48 (v.toNat * 2 ^ 32 + a.toNat % 2 ^ 32)) else none

/-- A window entry after an applied write of one field register; nothing where the value is out of range (R1, R2, R7, R196). -/
def Window.written (e : Window) (v : Word32) : WindowRegister → Option Window
  | .mode =>
    if v.toNat % 4 = 0 then some { e with mode := .off } else if v.toNat % 4 = 1 then some { e with mode := .pass }
    else if v.toNat % 4 = 2 then some { e with mode := .journal } else none
  | .baseLo => some { e with base := lowWritten 64 e.base v }
  | .baseHi => (highWritten e.base v).map fun a => { e with base := a }
  | .maskLo => some { e with mask := lowWritten 64 e.mask v }
  | .maskHi => (highWritten e.mask v).map fun a => { e with mask := a }
  | .markerPatternLo => some { e with markerPattern := lowWritten 8 e.markerPattern v }
  | .markerPatternHi => (highWritten e.markerPattern v).map fun a => { e with markerPattern := a }
  | .markerMaskLo => some { e with markerMask := lowWritten 8 e.markerMask v }
  | .markerMaskHi => (highWritten e.markerMask v).map fun a => { e with markerMask := a }
  | .signature => some { e with signature := BitVec.ofNat 16 v.toNat }
  | .lengthLimit => if v.toNat = 0 ∨ 256 < v.toNat then none else some { e with lengthLimit := v.toNat }
  | .idleTimeout => some { e with idleTimeout := BitVec.ofNat 16 v.toNat }
  | .policy =>
    if (v.toNat % 4 = 1 ∨ v.toNat % 4 = 2) ∧ (v.toNat / 4 % 4 = 1 ∨ v.toNat / 4 % 4 = 2) then
      some { e with
        fullPolicy := if v.toNat % 4 = 1 then .stall else .fail
        ackMode := if v.toNat / 4 % 4 = 1 then .early else .durable
        durableEvent := v.toNat / 16 % 2 = 1, retiredEvent := v.toNat / 32 % 2 = 1, abortedEvent := v.toNat / 64 % 2 = 1 }
    else none

/-- The word of a command that is a CONTROL write (R195); the rows that name a bit have that bit set. -/
def controlWord : Instr → Option Word32
  | .start v => some (v ||| 0x01#32)
  | .format v => some (v ||| 0x03#32)
  | .warmReset v => some (v ||| 0x04#32)
  | .clearOverflow v => some (v ||| 0x08#32)
  | .irqEnableSet v => some (v ||| 0x10#32)
  | .irqEnableClear v => some (v ||| 0x20#32)
  | .registerWrite a v => if a = 0x0004#16 then some v else none
  | .coldReset | .pfwarnAsserted | .pfwarnDeasserted | .upstreamRequest _ | .headEvaluation | .idleTimerExpiry _
  | .orphanTimerExpiry _ | .stallTimerExpiry | .takeCommitHead | .arbiterGrant | .recordWriteResponse _ _
  | .recordFlushResponse _ _ | .releaseTakeHead | .releaseWriteResponse _ _ | .retirement | .anchorUpdateStart
  | .homeFlushResponse _ _ | .anchorWriteResponse _ _ | .anchorFlushResponse _ _ | .drainComplete | .readResponse _ _
  | .ingressResponse _ _ | .lateResponseDiscard _ _ | .responseTimerExpiry _ | .anchorReadResponse _ _
  | .scanReadResponse _ _ | .recordReadResponse _ _ | .replayWriteResponse _ _ | .warmResetClearing | .eventPop
  | .sequenceLoRead _ | .windowFieldWrite _ _ | .badCommandFrame _ => none

/-- The word of a whole WRITE frame to CONTROL given by its bytes (R192, R194). -/
def frameControl : Instr → Option Word32
  | .badCommandFrame (c :: hi :: lo :: d3 :: d2 :: d1 :: d0 :: _) =>
    if c = 0x02#8 ∧ hi = 0x00#8 ∧ lo = 0x04#8 then some (d3 ++ d2 ++ d1 ++ d0) else none
  | _ => none

/-- The frame of a command byte, a register address and four data bytes, up to its status byte (R192). -/
def frameOf (command : Byte) (address : BitVec 16) (data : Word32) : List Byte :=
  [command, address.extractLsb' 8 8, address.extractLsb' 0 8, data.extractLsb' 24 8, data.extractLsb' 16 8,
    data.extractLsb' 8 8, data.extractLsb' 0 8, 0]

/-- What the status and configuration registers read, by address; the window fields and the event window apart (R194–R196). -/
def State.reads (s : State) : Nat → Option Nat
  | 0x0000 => some ((match s.mode with
      | .init => 0 | .recovering => 1 | .online => 2 | .draining => 3 | .drained => 4 | .faulted => 5) +
      if s.pfwarn then 2 ^ 8 else 0)
  | 0x0004 => some (if s.settings.irqEnable then 2 ^ 4 else 0)
  | 0x0008 => some (s.events.entries.length + if s.events.overflow then 2 ^ 31 else 0)
  | 0x0040 => some ((Config.contexts.filter fun c => s.ctx c ≠ .free).length + 2 ^ 8 * s.hold.length +
      2 ^ 24 * ((List.finRange 32).filter fun k => (s.trackEntry k).isSome).length)
  | 0x0044 => some s.ring.head
  | 0x0048 => some s.ring.durableOffset
  | 0x004C => some s.ring.live
  | 0x0054 => some s.settings.nextSequenceShadow.toNat
  | 0x005C => some s.settings.durableTailShadow.toNat
  | 0x0080 => some (s.settings.journalBase.toNat % 2 ^ 32)
  | 0x0084 => some (s.settings.journalBase.toNat / 2 ^ 32)
  | 0x0088 => some s.settings.ringSizeLog2
  | 0x008C => some s.settings.journalEpoch.toNat
  | 0x0090 => some s.settings.timebaseDiv
  | 0x0094 => some s.settings.anchorInterval
  | 0x0098 => some s.settings.flushBatch
  | 0x009C => some s.settings.stallTimeout
  | 0x00A0 => some s.settings.orphanTimeout
  | 0x00A4 => some s.settings.downstreamTimeout
  | 0x0100 => some s.settings.windowSelect.val
  | _ => none

/-- What a window field register reads of the selected entry, by its index from 0x0104 up (R194, R196). -/
def Window.reads (e : Window) : Nat → Option Nat
  | 0 => some (match e.mode with | .off => 0 | .pass => 1 | .journal => 2)
  | 1 => some (e.base.toNat % 2 ^ 32)
  | 2 => some (e.base.toNat / 2 ^ 32)
  | 3 => some (e.mask.toNat % 2 ^ 32)
  | 4 => some (e.mask.toNat / 2 ^ 32)
  | 5 => some (e.markerPattern.toNat % 2 ^ 32)
  | 6 => some (e.markerPattern.toNat / 2 ^ 32)
  | 7 => some (e.markerMask.toNat % 2 ^ 32)
  | 8 => some (e.markerMask.toNat / 2 ^ 32)
  | 9 => some e.signature.toNat
  | 10 => some e.lengthLimit
  | 11 => some e.idleTimeout.toNat
  | 12 => some ((match e.fullPolicy with | .stall => 1 | .fail => 2) + 4 * (match e.ackMode with | .early => 1 | .durable => 2) +
      (if e.durableEvent then 16 else 0) + (if e.retiredEvent then 32 else 0) + (if e.abortedEvent then 64 else 0))
  | _ => none

/-- The seven event words of an event as numbers; an absent field reads as zero (R197). -/
def Event.wordIs (e : Event) (i v : Nat) : Prop :=
  let q := (e.body.sequence?.getD 0).toNat
  let a := (e.body.address?.getD 0).toNat
  match i with
  | 0 => v % 2 ^ 8 = e.body.kindCode ∧ v / 2 ^ 8 % 2 ^ 8 = e.body.reason?.getD 0 ∧
      v / 2 ^ 16 % 2 ^ 6 = e.body.initiator?.getD 0 ∧ v / 2 ^ 22 % 2 ^ 3 = e.body.window?.getD 0 ∧
      v / 2 ^ 25 = e.body.context?.getD 0
  | 1 => v = e.timestamp.toNat
  | 2 => v = q % 2 ^ 32
  | 3 => v = q / 2 ^ 32
  | 4 => v = a % 2 ^ 32
  | 5 => v % 2 ^ 16 = a / 2 ^ 32 ∧ v / 2 ^ 16 < 2 ^ 7 ∧
      [e.body.context?.isSome, e.body.initiator?.isSome, e.body.window?.isSome, e.body.sequence?.isSome,
        e.body.reason?.isSome, e.body.address?.isSome, e.body.count?.isSome] = (List.range 7).map fun b => v.testBit (16 + b)
  | 6 => v = e.body.count?.getD 0 % 2 ^ 32
  | _ => False

/-- The modes an event announces as new and left; none for an event of another kind (R188). -/
def EventBody.modeChange? : EventBody → Option (Mode × Mode)
  | .modeChange m l => some (m, l)
  | _ => none

/-- The settings after an applied write to a register address, where the value is in range (R104, R194, R196). -/
def Settings.written (g : Settings) (v : Word32) : Nat → Option Settings
  | 0x0080 => some { g with journalBase := lowWritten 4096 g.journalBase v }
  | 0x0084 => (highWritten g.journalBase v).map fun a => { g with journalBase := a }
  | 0x0088 => if 16 ≤ v.toNat ∧ v.toNat ≤ 30 then some { g with ringSizeLog2 := v.toNat } else none
  | 0x008C => some { g with journalEpoch := v }
  | 0x0090 => if 1 ≤ v.toNat ∧ v.toNat ≤ 65535 then some { g with timebaseDiv := v.toNat } else none
  | 0x0094 => if 1 ≤ v.toNat ∧ v.toNat ≤ 64 then some { g with anchorInterval := v.toNat } else none
  | 0x0098 => if 1 ≤ v.toNat ∧ v.toNat ≤ 8 then some { g with flushBatch := v.toNat } else none
  | 0x009C => if 1 ≤ v.toNat ∧ v.toNat ≤ 65535 then some { g with stallTimeout := v.toNat } else none
  | 0x00A0 => if 1 ≤ v.toNat ∧ v.toNat ≤ 65535 then some { g with orphanTimeout := v.toNat } else none
  | 0x00A4 => if 1 ≤ v.toNat ∧ v.toNat ≤ 65535 then some { g with downstreamTimeout := v.toNat } else none
  | 0x0100 => if h : v.toNat < 8 then some { g with windowSelect := ⟨v.toNat, h⟩ } else none
  | _ => none

/-- The ring manager after a check of its start conditions in a mode and with an ANCHOR_INTERVAL: an anchor update starts where none
is in flight, the mode is ONLINE or DRAINING, something is unanchored and a trigger stands (R112). -/
def Ring.startChecked (g : Ring) (mode : Mode) (interval : Nat) : Ring :=
  if g.update = .idle ∧ (mode = .online ∨ mode = .draining) ∧ g.unanchored ≠ 0 ∧
      (interval ≤ g.retirements ∨ g.spaceRequest = true ∨ mode = .draining ∨ g.again = true) then
    { g with again := false, update := .homeFlush, toIssue := [(.flush, .homeFlush)] }
  else g

/-- The ring manager once it has been asked for the closing update of a recovery (R120, R157). -/
def Ring.closingAsked (g : Ring) (raise : Bool) (offset : Nat) (sequence : Word64) : Ring :=
  { g with
    epoch := if raise then g.epoch + 1 else g.epoch
    update := .homeFlush, snapshot := some ⟨offset, sequence, 0⟩, closing := true
    toIssue := [(.flush, .homeFlush)], writesAcked := 0 }

/-- The state once the scan has ended where it stands: CLOSE with the closing update asked for, or, while replay writes are
outstanding, a scan that examines nothing more (R155, R157). -/
def State.scanOver (s : State) (k : Scan) : State :=
  if k.unanswered = 0 then
    { s with
      recovery := ⟨.close ⟨some k.chosen, false, k.offset, k.expected, k.replayed, 0⟩, []⟩
      ring := s.ring.closingAsked true k.offset k.expected }
  else { s with recovery := ⟨.scan { k with step := .ended }, []⟩ }

/-! ## The laws -/

/-- The queues and tables of fixed depth hold no more than their depth (R66, R106, R121, R163, R172, R187). -/
def State.WithinDepth (s : State) : Prop :=
  s.events.entries.length ≤ Config.eventDepth ∧ s.ingress.queue.length ≤ Config.ingressDepth ∧
    s.downstream.outstanding.length ≤ Config.outstandingDepth ∧ s.release.releasing.length ≤ Config.releasingDepth ∧
    s.ring.retirements ≤ 64

/-- No two outstanding requests carry the same transfer tag (R172). -/
def State.TagsDistinct (s : State) : Prop :=
  (s.downstream.outstanding.map OutEntry.tag).Nodup

/-- Every register holds a value of its range (R2, R104, R194, R196). -/
def State.RegistersInRange (s : State) : Prop :=
  s.settings.journalBase.toNat % 4096 = 0 ∧
    (16 ≤ s.settings.ringSizeLog2 ∧ s.settings.ringSizeLog2 ≤ 30) ∧
    (1 ≤ s.settings.timebaseDiv ∧ s.settings.timebaseDiv ≤ 65535) ∧
    (1 ≤ s.settings.anchorInterval ∧ s.settings.anchorInterval ≤ 64) ∧
    (1 ≤ s.settings.flushBatch ∧ s.settings.flushBatch ≤ 8) ∧
    (1 ≤ s.settings.stallTimeout ∧ s.settings.stallTimeout ≤ 65535) ∧
    (1 ≤ s.settings.orphanTimeout ∧ s.settings.orphanTimeout ≤ 65535) ∧
    (1 ≤ s.settings.downstreamTimeout ∧ s.settings.downstreamTimeout ≤ 65535) ∧
    ∀ w : WindowIx, (s.window w).base.toNat % 64 = 0 ∧ (s.window w).mask.toNat % 64 = 0 ∧
      (s.window w).markerPattern.toNat % 8 = 0 ∧ (s.window w).markerMask.toNat % 8 = 0 ∧
      1 ≤ (s.window w).lengthLimit ∧ (s.window w).lengthLimit ≤ 256

/-- The engines run in the modes that let them: the recovery engine works exactly in RECOVERING, the writer and the release
engine are stopped in INIT and RECOVERING, and an anchor update is in flight only in ONLINE and DRAINING or as the closing
update (R82, R111, R118, R121, R149). -/
def State.EnginesInMode (s : State) : Prop :=
  (s.mode = .recovering ↔ s.recovery.phase ≠ .idle) ∧
    (s.writer.active = true → s.mode ≠ .init ∧ s.mode ≠ .recovering) ∧
    (s.release.active = true → s.mode ≠ .init ∧ s.mode ≠ .recovering) ∧
    (s.ring.closing = true → s.recovery.phase.isClose = true) ∧
    (s.ring.update ≠ .idle → s.ring.closing = true ∨ s.mode = .online ∨ s.mode = .draining)

/-- No context is OPEN in INIT, DRAINING, DRAINED and FAULTED, and every context is FREE in INIT and once a recovery has
cleared the table (R37, R38, R39, R42, R148). -/
def State.OpenInMode (s : State) : Prop :=
  ((s.mode = .draining ∨ s.mode = .drained ∨ s.mode = .faulted) → ∀ c, (s.ctx c).isOpen = false) ∧
    ((s.mode = .init ∨ s.recovery.phase.isCleared = true) → ∀ c, (s.ctx c).isFree = true)

/-- The binding map names each pair at most once, and names for it an OPEN or FAILED context of that pair; every OPEN or
FAILED context is bound, but for the time between a warm reset and its clearing step (R18, R41). -/
def State.BindingsMatch (s : State) : Prop :=
  s.bindings.Pairwise (fun a b => ¬(a.initiator = b.initiator ∧ a.window = b.window)) ∧
    (∀ b ∈ s.bindings, ((s.ctx b.context).isOpen = true ∨ (s.ctx b.context).isFailed = true) ∧
      ∀ o ∈ (s.ctx b.context).owner?, o.initiator = b.initiator ∧ o.window = b.window) ∧
    (s.recovery.phase ≠ .quiesce → ∀ c, ((s.ctx c).isOpen = true ∨ (s.ctx c).isFailed = true) →
      ∃ b ∈ s.bindings, b.context = c)

/-- The hold buffer's law: a slot number is HELD once, every HELD slot belongs to an OPEN or committed context and carries a
byte of its line, and on one line only the youngest slot can belong to an OPEN context, with no owner twice (R43, R44). -/
def State.HoldLaw (s : State) : Prop :=
  (s.hold.map HeldSlot.number).Nodup ∧
    (∀ h ∈ s.hold, ((s.ctx h.owner).isOpen = true ∨ (s.ctx h.owner).isCommitted = true) ∧ h.bytes.length = 64 ∧
      hasBytes h.bytes = true ∧ h.line = lineOf h.line) ∧
    s.hold.Pairwise fun a b => a.line = b.line → (s.ctx a.owner).isCommitted = true ∧ a.owner ≠ b.owner

/-- The commit pipeline's law: the commit queue, the records being written, the release queue and the releasing set hold
exactly the QUEUED, WRITING, DURABLE and RELEASING contexts, each once; the sealed records carry consecutive sequences from
the retired tail, up to the next sequence while commits can be taken (R17, R36, R81, R94, R123, R134). -/
def State.PipelineLaw (s : State) : Prop :=
  (s.sealed ++ s.writer.commitQueue).Nodup ∧
    (∀ c, (c ∈ s.writer.commitQueue ↔ (s.ctx c).isQueued = true) ∧ (c ∈ s.unflushed ↔ (s.ctx c).isWriting = true) ∧
      (c ∈ s.release.queue ↔ (s.ctx c).isDurable = true) ∧
      (c ∈ s.release.releasing.map Progress.context ↔ (s.ctx c).isReleasing = true)) ∧
    consecutiveFrom s.ring.retiredSequence (s.sealed.map fun c => (s.ctx c).sequence?) = true ∧
    ((s.mode = .online ∨ s.mode = .draining ∨ s.mode = .drained) →
      s.ring.nextSequence = s.ring.retiredSequence + BitVec.ofNat 64 s.sealed.length)

/-- The ring's law: the unanchored bytes, a pending pad and the sealed records all lie in the live bytes, and the live bytes
never exceed the ring size; the ring is empty in INIT (R107). -/
def State.RingLaw (s : State) : Prop :=
  s.ring.live ≤ s.ringSize ∧
    s.ring.unanchored + (s.ring.pendingPad.map Pad.length).getD 0 + s.sealedBytes ≤ s.ring.live ∧
    (∀ k ∈ s.ring.snapshot, k.unanchored ≤ s.ring.unanchored) ∧
    (s.mode = .init → s.ring.live = 0)

/-- The number of outstanding requests that their owner knows by a reference. -/
def State.outstandingFor (s : State) (ref : Ref) : Nat :=
  (s.downstream.outstanding.filter fun e => e.ref = ref).length

/-- The number of requests, handed over or outstanding, that an owner knows by a reference. -/
def State.inFlight (s : State) (ref : Ref) : Nat :=
  (s.ingress.handOver.filter fun h => h.ref = ref).length + s.outstandingFor ref

/-- No answer is lost: every pending answer counts exactly the requests handed over or outstanding for it, and a tracking
entry is ACTIVE exactly while its one READ is (R66, R74, R169). -/
def State.AnswersOwed (s : State) : Prop :=
  (s.ingress.answers.map PendingAnswer.id).Nodup ∧
    (∀ p ∈ s.ingress.answers, p.id < s.ingress.nextAnswer ∧ 1 ≤ p.remaining ∧
      s.inFlight (.pendingAnswer p.id) = p.remaining) ∧
    (∀ n, n ∉ s.ingress.answers.map PendingAnswer.id → s.inFlight (.pendingAnswer n) = 0) ∧
    ∀ k, s.inFlight (.tracking k) = if (s.trackEntry k).isSome then 1 else 0

/-- Each requester hands over only requests of its own references (R172, R173). -/
def State.RefsOfOwners (s : State) : Prop :=
  (∀ h ∈ s.ingress.handOver, h.ref.port = .ingress) ∧ (∀ q ∈ s.ring.toIssue, q.2.port = .ring) ∧
    ∀ q ∈ s.recovery.toIssue, q.2.port = .recovery

/-- An anchor update is in flight only as the closing update of a recovery or with bytes to anchor (R112, R115). -/
def State.UpdateHasBytes (s : State) : Prop :=
  s.ring.update ≠ .idle → s.ring.closing = true ∨ s.ring.unanchored ≠ 0

/-- In DRAINED no context is QUEUED, being written, DURABLE or RELEASING, and nothing is unanchored (R182, R183). -/
def State.DrainedIsEmpty (s : State) : Prop :=
  s.mode = .drained → s.writer.commitQueue = [] ∧ s.writer.openBatch = [] ∧ s.writer.flight = none ∧
    s.release.queue = [] ∧ s.release.releasing = [] ∧ s.ring.unanchored = 0

/-- The writer's count is right: while it is ACTIVE the unanswered writes of each record of the open batch are exactly the
outstanding ones, and a record flush is outstanding exactly while the flush in flight has been granted; in INIT and once a recovery
has cleared the writer nothing of it is left (R92, R93, R98, R100, R147, R148). -/
def State.WritesOwed (s : State) : Prop :=
  (s.writer.active = true →
    (∀ c, s.outstandingFor (.recordWrite c) =
      ((s.writer.openBatch.filter fun b => b.context = c).map BatchRecord.unanswered).sum) ∧
    s.outstandingFor .recordFlush = if s.writer.flight.any (fun f => !f.presented) then 1 else 0) ∧
  ((s.mode = .init ∨ s.recovery.phase.isCleared = true) → s.writer.openBatch = [] ∧ s.writer.flight = none ∧
    ∀ e ∈ s.downstream.outstanding, e.ref.port ≠ .writer)

/-- The laws together: what every state of a run keeps. -/
structure State.Lawful (s : State) : Prop where
  withinDepth : s.WithinDepth
  tagsDistinct : s.TagsDistinct
  registersInRange : s.RegistersInRange
  enginesInMode : s.EnginesInMode
  openInMode : s.OpenInMode
  bindingsMatch : s.BindingsMatch
  holdLaw : s.HoldLaw
  pipelineLaw : s.PipelineLaw
  ringLaw : s.RingLaw
  refsOfOwners : s.RefsOfOwners
  answersOwed : s.AnswersOwed
  updateHasBytes : s.UpdateHasBytes
  drainedIsEmpty : s.DrainedIsEmpty
  writesOwed : s.WritesOwed

/-- A safe run of a queue of commands: each is carried out, and none stops the machine. -/
def State.RunsSafely (s : State) : Nat → Prop
  | 0 => True
  | n + 1 => ∃ t, step s = .next t ∧ t.RunsSafely n

end Sys2Proof.Machine
end

