-- ==== Sys2Proof/Certificates/Slice0/Obligations.lean ====
section
/-! DEFINITION. The statements for the provers. Each is named for what it states; OBLIGATIONS.json gives its rule. -/

open Sys2Proof Sys2Proof.Machine

/-! ## The step, stops and reset -/

/-- A step takes the command at the front of the queue and carries it out with the queue's rest. -/
def Obligations.StepTakesFrontCommand : Prop :=
  ∀ (c : Instr) (rest : List Instr) (s : State), s.pending = c :: rest → step s = exec c { s with pending := rest }

/-- On an empty queue one REFCLK period passes, and TIMEBASE_DIV periods raise the timebase by one ("Time base"; that an idle
step is one period is the model's choice, assumption 1). -/
def Obligations.IdleStepsCountMicroseconds : Prop :=
  (∀ s : State, s.pending = [] → step s = .next
    (if s.refclkLeft ≤ 1 then { s with timebase := s.timebase + 1, refclkLeft := s.settings.timebaseDiv }
      else { s with refclkLeft := s.refclkLeft - 1 })) ∧
  ∀ s : State, s.pending = [] → 1 ≤ s.settings.timebaseDiv → s.refclkLeft = s.settings.timebaseDiv →
    Host.Core.run Sys2Proof.core s.settings.timebaseDiv s = .next { s with timebase := s.timebase + 1 }

/-- Nothing stops the machine but an answer to a READ with the wrong number of bytes, and a term that is no command; that it stops
there is the model's choice (assumptions 22 and 23). -/
def Obligations.OnlyMisfitDataStops : Prop :=
  ∀ (c : Instr) (s : State),
    (∃ t, exec c s = .next t) ∨
    (exec c s = .refused .illFormed ∧ c.WellFormed = false) ∨
    (exec c s = .fault .readDataLength ∧
      ∃ (tag : XferTag) (data : List Byte) (e : OutEntry) (n : Nat), responseOf c = some (tag, .ack data) ∧
        s.entry tag = some e ∧ e.kind = .read n ∧ data.length ≠ n)

/-- Cold reset returns every block to its cold reset values and answers no request; the level of PFWARN is its input's
(assumption 3). -/
def Obligations.ColdResetReturnsResetState : Prop :=
  ∀ s : State, ∃ t, exec .coldReset s = .next t ∧ t = { State.reset with pfwarn := s.pfwarn, pending := s.pending } ∧
    (∀ c, t.ctx c = .free) ∧ t.bindings = [] ∧ t.inDoubt = [] ∧ t.upOut = [] ∧ t.settings.orphanTimeout = 100

/-- Every law holds after cold reset. -/
def Obligations.ResetStateIsLawful : Prop := State.reset.Lawful

/-- The event queue appends an event with its timestamp while it holds fewer than 64, and otherwise drops it and sets the
overflow flag; IRQ follows queue, enable and mode, and DRAINED follows the mode (R186, R187, R191). -/
def Obligations.EventPushAndOutputLines : Prop :=
  (∀ (s : State) (b : EventBody),
    (s.events.entries.length < 64 → s.push b =
      { s with events := { s.events with entries := s.events.entries ++ [⟨s.timebase.setWidth 32, b⟩] } }) ∧
    (64 ≤ s.events.entries.length → s.push b = { s with events := { s.events with overflow := true } })) ∧
  (∀ s : State, s.irqPin = true ↔ (s.events.entries ≠ [] ∧ s.settings.irqEnable = true) ∨ s.mode = .faulted) ∧
  (∀ s : State, s.drainedPin = true ↔ s.mode = .drained) ∧
  State.reset.irqPin = false ∧ State.reset.drainedPin = false

/-! ## Windows and markers (chapter 1) -/

/-- An address lies in journal window w exactly when w is the lowest entry that matches it and is in mode JOURNAL; a byte
matches an entry exactly when its line does (R2, R3, R4). -/
def Obligations.LowestMatchingEntryDecides : Prop :=
  (∀ (e : Window) (a : Addr), e.matchesAddr a = true ↔ e.mode ≠ .off ∧ a &&& e.mask = e.base &&& e.mask) ∧
  (∀ (s : State) (a : Addr) (w : WindowIx), s.journalWindow a = some w ↔
    (s.window w).mode = .journal ∧ (s.window w).matchesAddr (lineOf a) = true ∧
      ∀ v, v < w → (s.window v).matchesAddr (lineOf a) = false) ∧
  ∀ (e : Window) (a : Addr), e.mask.toNat % 64 = 0 → e.matchesAddr (lineOf a) = e.matchesAddr a

/-- A write to a window field register is applied only while every context is FREE, with the low bits forced and a value out
of range refused (R2, R6, R7, R196). -/
def Obligations.WindowFieldWriteAppliedWhenAllFree : Prop :=
  ∀ (s : State) (r : WindowRegister) (v : Word32),
    ((∃ c, s.ctx c ≠ .free) →
      exec (.windowFieldWrite r v) s = .next { s with reply := some ⟨none, some .busy⟩ }) ∧
    ((∀ c, s.ctx c = .free) → Window.written (s.window s.settings.windowSelect) v r = none →
      exec (.windowFieldWrite r v) s = .next { s with reply := some ⟨none, some .badAddr⟩ }) ∧
    ∀ e, (∀ c, s.ctx c = .free) → Window.written (s.window s.settings.windowSelect) v r = some e →
      exec (.windowFieldWrite r v) s =
        .next { s with windows := s.windows.set s.settings.windowSelect e, reply := some ⟨none, some .ok⟩ }

/-- A write that touches a marker word is MALFORMED by the first check it fails, and a MALFORMED request is refused whole in
every mode: one answer, one event with the lowest marker word touched, and nothing else (R11, R13, R14). -/
def Obligations.MalformedRequestRefusedWhole : Prop :=
  ∀ (s : State) (r : UpRequest) (bs : List (Option Byte)) (w : WindowIx) (a : Addr),
    s.HeadIs r → r.kind = .write bs → r.addr.toNat + bs.length ≤ 2 ^ 48 →
    (∃ k, k < bs.length ∧ wordOf (r.addr + BitVec.ofNat 48 k) = a) → s.markerWindow a = some w →
    (∀ k, k < bs.length → (s.markerWindow (wordOf (r.addr + BitVec.ofNat 48 k))).isSome = true →
      a.toNat ≤ (wordOf (r.addr + BitVec.ofNat 48 k)).toNat) →
    ∀ d : MalformedDetail,
      ((d = .shape ∧ ¬(bs.length = 8 ∧ r.addr.toNat % 8 = 0 ∧ ∀ b ∈ bs, b.isSome = true)) ∨
        ∃ v, exactValue r = some v ∧
          let code := v.toNat / 2 ^ 56
          let known := code = 1 ∨ code = 2 ∨ code = 3
          let signature := v.toNat / 2 ^ 40 % 2 ^ 16 = (s.window w).signature.toNat
          (d = .unknownCode ∧ ¬known ∨ d = .signature ∧ known ∧ ¬signature ∨
            d = .nonzero ∧ known ∧ signature ∧ v.toNat / 2 ^ 32 % 2 ^ 8 ≠ 0)) →
      exec .headEvaluation s =
        .next ((s.endRequest (requesterOf r) (.refused .malformed)).push (.markerMalformed r.initiator w d a))

/-! ## Marker commands (chapter 2) -/

/-- An OPEN marker is refused for MODE, NESTED or FULL, in that order, or takes the lowest FREE context and binds it (R19,
R20). -/
def Obligations.OpenMarkerTakesLowestFreeContext : Prop :=
  ∀ (s : State) (r : UpRequest) (w : WindowIx) (a : Addr) (v : Word64),
    s.HeadIs r → passesAddressSpace r = false → s.markerCheck r = .marker w a .openTxn v → s.mode.evaluates = true →
    let refused := fun (reason : MarkerRefusal) (c : Option ContextIx) =>
      (s.endRequest (requesterOf r) (.refused (.marker reason))).push (.markerRefused c r.initiator w reason a)
    (s.mode ≠ .online → exec .headEvaluation s = .next (refused .mode none)) ∧
    (∀ c, s.mode = .online → s.boundContext r.initiator w = some c →
      exec .headEvaluation s = .next (refused .nested (some c))) ∧
    (s.mode = .online → s.boundContext r.initiator w = none → (∀ c, (s.ctx c).isFree = false) →
      exec .headEvaluation s = .next (refused .full none)) ∧
    ∀ c, s.mode = .online → s.boundContext r.initiator w = none → s.ctx c = .free →
      (∀ d, d < c → (s.ctx d).isFree = false) →
      exec .headEvaluation s = .next (State.endRequest
        { s with
          contexts := s.contexts.set c (.opened ⟨r.initiator, w, BitVec.ofNat 32 v.toNat⟩ false s.timebase
            (decide ((s.window w).idleTimeout ≠ 0)))
          bindings := s.bindings ++ [⟨r.initiator, w, c⟩] }
        (requesterOf r) (.ok []))

/-- A COMMIT marker is refused without a binding, closes a FAILED context with its reason, frees an OPEN context with no
entries, and queues one with entries, answered by the ack mode of the window (R19, R21, R22, R23, R33, R34). -/
def Obligations.CommitMarkerQueuesContext : Prop :=
  ∀ (s : State) (r : UpRequest) (w : WindowIx) (a : Addr) (v : Word64),
    s.HeadIs r → passesAddressSpace r = false → s.markerCheck r = .marker w a .commitTxn v → s.mode.evaluates = true →
    let unbound := s.bindings.filter fun b => !(b.initiator = r.initiator && b.window = w)
    (s.boundContext r.initiator w = none → exec .headEvaluation s = .next
      ((s.endRequest (requesterOf r) (.refused (.marker .noContext))).push
        (.markerRefused none r.initiator w .noContext a))) ∧
    (∀ c o why since orphan, s.boundContext r.initiator w = some c → s.ctx c = .failed o why since orphan →
      exec .headEvaluation s = .next
        (State.endRequest { s with contexts := s.contexts.set c .free, bindings := unbound } (requesterOf r)
          (.failed (.context why)))) ∧
    ∀ c o f since idle, s.boundContext r.initiator w = some c → s.ctx c = .opened o f since idle →
      let queued := fun (p : Option Requester) =>
        { s with
          contexts := s.contexts.set c (.queued o f ⟨BitVec.ofNat 32 v.toNat, a, v⟩ p)
          bindings := unbound
          writer := { s.writer with commitQueue := s.writer.commitQueue ++ [c] } }
      (s.entryCount c = 0 → exec .headEvaluation s = .next
        (State.endRequest { s with contexts := s.contexts.set c .free, bindings := unbound } (requesterOf r) (.ok []))) ∧
      (1 ≤ s.entryCount c → (s.window w).ackMode = .early →
        exec .headEvaluation s = .next ((queued none).endRequest (requesterOf r) (.ok []))) ∧
      (1 ≤ s.entryCount c → (s.window w).ackMode = .durable →
        exec .headEvaluation s = .next (queued (some (requesterOf r))).leaveHead)

/-- An ABORT marker is refused without a binding, discards the slots of an OPEN context, and closes a FAILED one (R19, R24). -/
def Obligations.AbortMarkerFreesContext : Prop :=
  ∀ (s : State) (r : UpRequest) (w : WindowIx) (a : Addr) (v : Word64),
    s.HeadIs r → passesAddressSpace r = false → s.markerCheck r = .marker w a .abortTxn v → s.mode.evaluates = true →
    let unbound := s.bindings.filter fun b => !(b.initiator = r.initiator && b.window = w)
    (s.boundContext r.initiator w = none → exec .headEvaluation s = .next
      ((s.endRequest (requesterOf r) (.refused (.marker .noContext))).push
        (.markerRefused none r.initiator w .noContext a))) ∧
    (∀ c o why since orphan, s.boundContext r.initiator w = some c → s.ctx c = .failed o why since orphan →
      exec .headEvaluation s = .next
        (State.endRequest { s with contexts := s.contexts.set c .free, bindings := unbound } (requesterOf r) (.ok []))) ∧
    ∀ c o f since idle, s.boundContext r.initiator w = some c → s.ctx c = .opened o f since idle →
      let closed := State.endRequest
        { s with
          contexts := s.contexts.set c .free
          bindings := unbound
          hold := s.hold.filter fun h => h.owner ≠ c } (requesterOf r) (.ok [])
      exec .headEvaluation s = .next
        (if (s.window w).abortedEvent then closed.push (.txnAborted c o.initiator o.window (s.entryCount c)) else closed)

/-- An idle timer that has expired fails its OPEN context with IDLE, which ends a wait of the head for its slots and is recorded by
a walk that placed pieces into it; an orphan timer that has expired unbinds and frees its FAILED context (R27, R29, R31, R52, R55,
R60, R71). That an expiry which is not due, or finds no such timer, changes nothing is the model's choice (assumption 6), and so
is that the reason a walk recorded first stands (assumption 8). -/
def Obligations.ContextTimersExpire : Prop :=
  (∀ (s : State) (c : ContextIx) (o : Owner) (f : Bool) (since : Word64), s.ctx c = .opened o f since true →
    let timeout := (s.window o.window).idleTimeout.toNat
    (timeout ≠ 0 → since.toNat + timeout ≤ s.timebase.toNat → exec (.idleTimerExpiry c) s = .next
      { s with
        contexts := s.contexts.set c (.failed o .idle s.timebase (some s.settings.orphanTimeout))
        hold := s.hold.filter fun h => h.owner ≠ c
        events := (s.push (.txnFailed c o.initiator o.window none .idle none (s.entryCount c))).events
        ingress := s.ingress.afterFailure .idle (decide (1 ≤ s.entryCount c)) (fun x => decide (x = c)) false }) ∧
    (timeout = 0 ∨ s.timebase.toNat < since.toNat + timeout → exec (.idleTimerExpiry c) s = .next s)) ∧
  (∀ (s : State) (c : ContextIx), (∀ o f since, s.ctx c ≠ .opened o f since true) →
    exec (.idleTimerExpiry c) s = .next s) ∧
  (∀ (s : State) (c : ContextIx) (o : Owner) (why : FailReason) (since : Word64) (ms : Nat),
    s.ctx c = .failed o why since (some ms) →
    (since.toNat + 1000 * ms ≤ s.timebase.toNat → exec (.orphanTimerExpiry c) s = .next
      (State.push
        { s with
          contexts := s.contexts.set c .free
          bindings := s.bindings.filter fun b => !(b.initiator = o.initiator && b.window = o.window) }
        (.txnOrphaned c o.initiator o.window why))) ∧
    (s.timebase.toNat < since.toNat + 1000 * ms → exec (.orphanTimerExpiry c) s = .next s)) ∧
  ∀ (s : State) (c : ContextIx), (∀ o why since ms, s.ctx c ≠ .failed o why since (some ms)) →
    exec (.orphanTimerExpiry c) s = .next s

/-! ## Data writes (chapter 3) -/

/-- A write within one line whose binding names an OPEN context merges into that context's slot where it stands last on the
line, and otherwise takes the lowest FREE slot behind the committed slots (R25, R46, R47, R48). -/
def Obligations.BoundWriteIsHeld : Prop :=
  ∀ (s : State) (r : UpRequest) (bs : List (Option Byte)) (w : WindowIx) (c : ContextIx) (o : Owner) (f : Bool)
    (since : Word64) (idle : Bool),
    s.HeadIs r → s.ingress.walk = none → r.kind = .write bs → passesAddressSpace r = false →
    posOf r.addr + bs.length ≤ 64 → bs.any Option.isSome = true → s.markerCheck r = .none → s.mode.evaluates = true →
    s.journalWindow r.addr = some w → s.boundContext r.initiator w = some c → s.ctx c = .opened o f since idle →
    let line := lineOf r.addr
    let bytes := lineBytesAt (posOf r.addr) bs
    let touched := s.contexts.set c (.opened o f s.timebase idle)
    (∀ h, (s.chain line).getLast? = some h → h.owner = c →
      exec .headEvaluation s = .next (State.endRequest
        { s with
          contexts := touched
          hold := s.hold.map fun g => if g.number = h.number then { g with bytes := layOver g.bytes bytes } else g }
        (requesterOf r) (.ok []))) ∧
    ∀ n : SlotNo, (∀ h ∈ (s.chain line).getLast?, h.owner ≠ c ∧ (s.ctx h.owner).isOpen = false) →
      s.entryCount c + 1 ≤ (s.window w).lengthLimit → (∀ h ∈ s.hold, h.number ≠ n) →
      (∀ m, m < n → ∃ h ∈ s.hold, h.number = m) →
      exec .headEvaluation s = .next (State.endRequest
        { s with contexts := touched, hold := s.hold ++ [⟨n, line, bytes, c⟩] } (requesterOf r) (.ok []))

/-- Such a write fails its context with CONFLICT behind another context's open slot, with LENGTH past the length limit, and
with NO_SLOT when no slot is FREE under FAIL; under STALL it waits (R27, R46, R48, R49, R51, R52). -/
def Obligations.BoundWriteFailsOrWaits : Prop :=
  ∀ (s : State) (r : UpRequest) (bs : List (Option Byte)) (w : WindowIx) (c : ContextIx) (o : Owner) (f : Bool)
    (since : Word64) (idle : Bool),
    s.HeadIs r → s.ingress.walk = none → r.kind = .write bs → passesAddressSpace r = false →
    posOf r.addr + bs.length ≤ 64 → bs.any Option.isSome = true → s.markerCheck r = .none → s.mode.evaluates = true →
    s.journalWindow r.addr = some w → s.boundContext r.initiator w = some c → s.ctx c = .opened o f since idle →
    let line := lineOf r.addr
    let last := (s.chain line).getLast?
    let conflict := ∃ h, last = some h ∧ h.owner ≠ c ∧ (s.ctx h.owner).isOpen = true
    let newSlot := ∀ h, last = some h → h.owner ≠ c ∧ (s.ctx h.owner).isOpen = false
    let tooLong := (s.window w).lengthLimit < s.entryCount c + 1
    let full := ∀ m : SlotNo, ∃ h ∈ s.hold, h.number = m
    (∀ why : FailReason,
      (why = .conflict ∧ conflict ∨ why = .length ∧ newSlot ∧ tooLong ∨
        why = .noSlot ∧ newSlot ∧ ¬tooLong ∧ full ∧ (s.window w).fullPolicy = .fail) →
      exec .headEvaluation s = .next (State.push
        (State.endRequest
          { s with
            contexts := s.contexts.set c (.failed o why s.timebase (some s.settings.orphanTimeout))
            hold := s.hold.filter fun h => h.owner ≠ c }
          (requesterOf r) (.failed (.context why)))
        (.txnFailed c o.initiator o.window none why (some line) (s.entryCount c)))) ∧
    (newSlot → ¬tooLong → full → (s.window w).fullPolicy = .stall →
      exec .headEvaluation s = .next { s with ingress := { s.ingress with
        wait := some (.slot c line)
        timer := some (s.ingress.timer.getD ⟨s.timebase, s.settings.stallTimeout⟩)
        walk := some Walk.fresh } })

/-- A write within one line that holds nothing: a FAILED binding answers it with the stored reason; one with no enabled byte
is answered OK; outside every journal window, or bare with no committed slot on its line, it is handed over downstream and
marks the open slot's owner interfered; behind a committed slot a bare write waits (R26, R50, R54, R56, R58, R59, R60). -/
def Obligations.WriteNotHeldPassesWaitsOrFails : Prop :=
  ∀ (s : State) (r : UpRequest) (bs : List (Option Byte)),
    s.HeadIs r → s.ingress.walk = none → r.kind = .write bs → passesAddressSpace r = false → 1 ≤ bs.length →
    posOf r.addr + bs.length ≤ 64 → s.markerCheck r = .none →
    let line := lineOf r.addr
    let bytes := lineBytesAt (posOf r.addr) bs
    let issued := fun (t : State) => State.leaveHead { t with ingress := { t.ingress with
      handOver := [⟨.write line bytes, .pendingAnswer s.ingress.nextAnswer, false⟩]
      answers := s.ingress.answers ++ [⟨s.ingress.nextAnswer, requesterOf r, 1, false⟩]
      nextAnswer := s.ingress.nextAnswer + 1 } }
    let answered := s.endRequest (requesterOf r) (.ok [])
    let committed := ∃ h ∈ s.hold, h.line = line ∧ (s.ctx h.owner).isCommitted = true
    (s.journalWindow r.addr = none →
      (bs.any Option.isSome = true → exec .headEvaluation s = .next (issued s)) ∧
      (bs.any Option.isSome = false → exec .headEvaluation s = .next answered)) ∧
    ∀ w, s.journalWindow r.addr = some w → s.mode.evaluates = true →
      (∀ c o why since orphan, s.boundContext r.initiator w = some c → s.ctx c = .failed o why since orphan →
        exec .headEvaluation s = .next (s.endRequest (requesterOf r) (.failed (.context why)))) ∧
      (∀ c o f since idle, s.boundContext r.initiator w = some c → s.ctx c = .opened o f since idle →
        bs.any Option.isSome = false → exec .headEvaluation s = .next answered) ∧
      (s.boundContext r.initiator w = none →
        (bs.any Option.isSome = false → exec .headEvaluation s = .next answered) ∧
        (bs.any Option.isSome = true → committed → exec .headEvaluation s = .next
          { s with ingress := { s.ingress with
            wait := some (.bare w r.addr)
            timer := some (s.ingress.timer.getD ⟨s.timebase, s.settings.stallTimeout⟩)
            walk := some Walk.fresh } }) ∧
        (bs.any Option.isSome = true → ¬committed →
          (∀ h o f since idle, (s.chain line).getLast? = some h → s.ctx h.owner = .opened o f since idle →
            exec .headEvaluation s = .next
              (issued { s with contexts := s.contexts.set h.owner (.opened o true since idle) })) ∧
          ((s.chain line).getLast? = none → exec .headEvaluation s = .next (issued s))))

/-- A data write is cut at the line boundaries into pieces, which the walk settles one by one in ascending address order: from the
first piece, or after a wait from the piece it paused at, each piece settled leaves the evaluation of the rest with the walk's
record of it; a piece that fails or waits ends the evaluation, a context that failed during the wait stops the walk before the
waiting piece, and with no piece left the cleared pieces with an enabled byte are handed over in order (R26, R46, R47, R48, R49,
R50, R51, R52, R54, R55, R56, R57, R58, R59, R164). That an empty piece of an OPEN context is settled with no context recorded
as placed is the model's reading of R50 (assumption 8). -/
def Obligations.WalkSettlesPieceByPiece : Prop :=
  ∀ (s : State) (r : UpRequest) (bs : List (Option Byte)) (k : Walk),
    s.HeadIs r → r.kind = .write bs → passesAddressSpace r = false → s.markerCheck r = .none →
    (s.mode.evaluates = true ∨ s.firstJournalPiece r = none) → k = s.ingress.walk.getD Walk.fresh →
    let evaluated := exec .headEvaluation s
    let ended := fun (code : AnswerCode) => Host.Outcome.next (s.endRequest (requesterOf r) code)
    (((pieces r).map Prod.snd).flatten = bs ∧ ∀ (i : Nat) (p : Addr × List (Option Byte)), (pieces r)[i]? = some p →
      p.1.toNat = r.addr.toNat + (((pieces r).take i).map fun x => x.2.length).sum ∧ 1 ≤ p.2.length ∧
        posOf p.1 + p.2.length ≤ 64 ∧ (i + 1 = (pieces r).length ∨ posOf p.1 + p.2.length = 64)) ∧
    (∀ f, k.failed = some f → evaluated = ended (.failed (.context f))) ∧
    (k.failed = none → (pieces r).drop k.settled = [] →
      let issued := k.cleared.filter fun p => hasBytes p.bytes
      (issued = [] → evaluated = ended (.ok [])) ∧
      (issued ≠ [] → ∃ t, evaluated = .next t ∧
        (∀ c, t.ctx c = match s.ctx c with
          | .opened o f since idle => .opened o (f || issued.any fun p =>
              p.bare && (s.chain p.line).getLast?.any fun h => decide (h.owner = c)) since idle
          | x => x) ∧
        t = State.leaveHead { s with
          contexts := t.contexts
          ingress := { s.ingress with
            handOver := issued.map fun p => ⟨.write p.line p.bytes, .pendingAnswer s.ingress.nextAnswer, false⟩
            answers := s.ingress.answers ++ [⟨s.ingress.nextAnswer, requesterOf r, issued.length, false⟩]
            nextAnswer := s.ingress.nextAnswer + 1 } })) ∧
    ∀ (p : Addr × List (Option Byte)) (rest : List (Addr × List (Option Byte))),
      k.failed = none → (pieces r).drop k.settled = p :: rest →
      let line := lineOf p.1
      let bytes := lineBytesAt (posOf p.1) p.2
      let goesOn := fun (t : State) (cleared : List ClearedPiece) (placed : List ContextIx) =>
        exec .headEvaluation { t with ingress := { s.ingress with
          walk := some ⟨k.settled + 1, k.cleared ++ cleared, k.placed ++ placed, none⟩ } }
      let waits := fun (w : HeadWait) => Host.Outcome.next { s with ingress := { s.ingress with
        wait := some w, timer := some (s.ingress.timer.getD ⟨s.timebase, s.settings.stallTimeout⟩), walk := some k } }
      (s.journalWindow p.1 = none → evaluated = goesOn s [⟨line, bytes, false⟩] []) ∧
      ∀ w, s.journalWindow p.1 = some w →
        (s.boundContext r.initiator w = none →
          let blocked := hasBytes bytes = true ∧ ∃ h ∈ s.hold, h.line = line ∧ (s.ctx h.owner).isCommitted = true
          (¬blocked → evaluated = goesOn s [⟨line, bytes, true⟩] []) ∧ (blocked → evaluated = waits (.bare w p.1))) ∧
        (∀ c o why since orphan, s.boundContext r.initiator w = some c → s.ctx c = .failed o why since orphan →
          evaluated = ended (.failed (.context why))) ∧
        ∀ c o f since idle, s.boundContext r.initiator w = some c → s.ctx c = .opened o f since idle →
          let touched := s.contexts.set c (.opened o f s.timebase idle)
          let last := (s.chain line).getLast?
          let newSlot := ∀ h, last = some h → h.owner ≠ c ∧ (s.ctx h.owner).isOpen = false
          let tooLong := (s.window w).lengthLimit < s.entryCount c + 1
          let full := ∀ m : SlotNo, ∃ h ∈ s.hold, h.number = m
          (hasBytes bytes = false → evaluated = goesOn s [] []) ∧
          (hasBytes bytes = true →
            (∀ h, last = some h → h.owner = c → evaluated = goesOn
              { s with
                contexts := touched
                hold := s.hold.map fun g => if g.number = h.number then { g with bytes := layOver g.bytes bytes } else g }
              [] [c]) ∧
            (∀ n : SlotNo, newSlot → ¬tooLong → (∀ h ∈ s.hold, h.number ≠ n) → (∀ m, m < n → ∃ h ∈ s.hold, h.number = m) →
              evaluated = goesOn { s with contexts := touched, hold := s.hold ++ [⟨n, line, bytes, c⟩] } [] [c]) ∧
            (∀ why : FailReason,
              (why = .conflict ∧ (∃ h, last = some h ∧ h.owner ≠ c ∧ (s.ctx h.owner).isOpen = true) ∨
                why = .length ∧ newSlot ∧ tooLong ∨
                why = .noSlot ∧ newSlot ∧ ¬tooLong ∧ full ∧ (s.window w).fullPolicy = .fail) →
              evaluated = .next (State.push
                (State.endRequest
                  { s with
                    contexts := s.contexts.set c (.failed o why s.timebase (some s.settings.orphanTimeout))
                    hold := s.hold.filter fun h => h.owner ≠ c }
                  (requesterOf r) (.failed (.context why)))
                (.txnFailed c o.initiator o.window none why (some line) (s.entryCount c)))) ∧
            (newSlot → ¬tooLong → full → (s.window w).fullPolicy = .stall → evaluated = waits (.slot c line)))

/-- An evaluation of the head comes to exactly one of four ends: one answer; requests handed over that one pending answer
or one tracking entry accounts for; a COMMIT whose answer its context holds; or a timed wait with nothing issued and nothing
answered (R54, R56, R57, R162, R165, R166, R167). -/
def Obligations.HeadEndsOnceOrWaits : Prop :=
  ∀ (s : State) (r : UpRequest), s.HeadIs r → ∃ t, exec .headEvaluation s = .next t ∧ t.dnOut = s.dnOut ∧
    ((t.ingress.queue = s.ingress.queue.tail ∧ t.ingress.wait = none ∧ t.ingress.handOver = [] ∧
        t.ingress.answers = s.ingress.answers ∧ t.tracking = s.tracking ∧
        ∃ code, t.upOut = s.upOut ++ [⟨requesterOf r, code⟩]) ∨
      (t.ingress.queue = s.ingress.queue.tail ∧ t.ingress.wait = none ∧ t.upOut = s.upOut ∧ t.tracking = s.tracking ∧
        t.ingress.handOver ≠ [] ∧ (∀ h ∈ t.ingress.handOver, h.ref = .pendingAnswer s.ingress.nextAnswer) ∧
        t.ingress.answers = s.ingress.answers ++
          [⟨s.ingress.nextAnswer, requesterOf r, t.ingress.handOver.length, false⟩]) ∨
      (t.ingress.queue = s.ingress.queue.tail ∧ t.ingress.wait = none ∧ t.upOut = s.upOut ∧
        t.ingress.answers = s.ingress.answers ∧ ∃ (k : EntryNo) (e : TrackEntry) (q : DownRequest),
          s.trackEntry k = none ∧ e.requester = requesterOf r ∧ t.tracking = s.tracking.set k (some e) ∧
          t.ingress.handOver = [⟨q, .tracking k, false⟩]) ∨
      (t.ingress.queue = s.ingress.queue.tail ∧ t.ingress.wait = none ∧ t.upOut = s.upOut ∧ t.ingress.handOver = [] ∧
        t.ingress.answers = s.ingress.answers ∧ t.tracking = s.tracking ∧
        ∃ c, (t.ctx c).isQueued = true ∧ (t.ctx c).pending? = some (requesterOf r) ∧
          t.writer.commitQueue = s.writer.commitQueue ++ [c]) ∨
      (t.ingress.queue = s.ingress.queue ∧ t.ingress.wait.isSome = true ∧ t.ingress.timer.isSome = true ∧
        t.ingress.handOver = [] ∧ t.ingress.answers = s.ingress.answers ∧ t.upOut = s.upOut ∧ t.tracking = s.tracking))

/-! ## Reads (chapter 4) -/

/-- A read with no held byte to show is handed over as one READ; one with overlays takes the lowest FREE tracking entry with
its snapshot, or waits while all 32 are ACTIVE (R65, R69, R70, R71). -/
def Obligations.ReadTakesLowestFreeEntry : Prop :=
  ∀ (s : State) (r : UpRequest) (n : Nat),
    s.HeadIs r → r.kind = .read n → passesAddressSpace r = false →
    (s.firstJournalPiece r = none ∨ s.mode.evaluates = true) →
    (s.overlays r = [] → exec .headEvaluation s = .next (State.leaveHead { s with ingress := { s.ingress with
      handOver := [⟨.read r.addr n, .pendingAnswer s.ingress.nextAnswer, false⟩]
      answers := s.ingress.answers ++ [⟨s.ingress.nextAnswer, requesterOf r, 1, false⟩]
      nextAnswer := s.ingress.nextAnswer + 1 } })) ∧
    (∀ k : EntryNo, s.overlays r ≠ [] → s.trackEntry k = none → (∀ j, j < k → s.trackEntry j ≠ none) →
      exec .headEvaluation s = .next (State.leaveHead { s with
        tracking := s.tracking.set k (some ⟨requesterOf r, r.addr, n, s.overlays r⟩)
        ingress := { s.ingress with handOver := [⟨.read r.addr n, .tracking k, false⟩] } })) ∧
    (s.overlays r ≠ [] → (∀ k, s.trackEntry k ≠ none) → ∃ w a, s.firstJournalPiece r = some (w, a) ∧
      exec .headEvaluation s = .next { s with ingress := { s.ingress with
        wait := some (.tracking w)
        timer := some (s.ingress.timer.getD ⟨s.timebase, s.settings.stallTimeout⟩)
        walk := none } })

/-- A read's overlays give, at each address of its range in a journal window, the byte of the youngest slot on the line's
chain that the reader may see and that holds one, and nothing elsewhere; the open slots of other contexts make no difference: two
hold buffers with the same committed slots and the same slots of contexts bound to the reader give it the same overlays (R67,
R68). -/
def Obligations.OverlayGivesYoungestSeenByte : Prop :=
  (∀ (s : State) (r : UpRequest) (n x : Nat),
    r.kind = .read n → r.addr.toNat + n ≤ 2 ^ 48 → (∀ h ∈ s.hold, h.bytes.length = 64) →
    r.addr.toNat ≤ x → x < r.addr.toNat + n →
    overlayByte (s.overlays r) x =
      match s.journalWindow (BitVec.ofNat 48 x) with
      | none => none
      | some w =>
        ((s.chain (lineOf (BitVec.ofNat 48 x))).reverse.filter (s.seenBy r.initiator w)).findSome?
          fun h => (h.bytes[x % 64]?).getD none) ∧
  ∀ (s : State) (r : UpRequest) (other : List HeldSlot),
    let visible := fun (h : HeldSlot) => (s.ctx h.owner).isCommitted ||
      Config.windows.any fun w => decide (s.boundContext r.initiator w = some h.owner)
    s.hold.filter visible = other.filter visible → State.overlays { s with hold := other } r = s.overlays r

/-- The READ of an ACTIVE entry answers the read with each overlay byte laid over the memory's, or MEMORY_ERROR, and the
entry returns to FREE (R73, R74). -/
def Obligations.ReadAnsweredWithOverlay : Prop :=
  ∀ (s : State) (tag : XferTag) (e : OutEntry) (k : EntryNo) (x : TrackEntry) (n : Nat),
    s.entry tag = some e → e.ref = .tracking k → e.kind = .read n → s.trackEntry k = some x →
    let freed := fun (code : AnswerCode) => State.endWait
      { s with
        downstream := { s.downstream with outstanding := s.downstream.outstanding.filter fun d => d.tag ≠ tag }
        upOut := s.upOut ++ [⟨x.requester, code⟩]
        tracking := s.tracking.set k none } HeadWait.onEntryFree
    exec (.readResponse tag .error) s = .next (freed .memoryError) ∧
    ∀ data : List Byte, data.length = n → ∃ merged : List Byte,
      exec (.readResponse tag (.ack data)) s = .next (freed (.ok merged)) ∧ merged.length = n ∧
      ∀ (j : Nat) (b : Byte), data[j]? = some b →
        merged[j]? = some ((overlayByte x.overlays (x.addr.toNat + j)).getD b)

/-! ## The ports (chapter 9) -/

/-- A request joins the tail of the ingress queue while the queue holds fewer than 8; at 8 it is not taken (R163; that the
command then changes nothing is the model's choice, assumption 24). The head is not evaluated while a wait or the hand-over list
holds it; a range that passes the address space is answered MEMORY_ERROR; and in INIT and RECOVERING a request in a journal
window that is not MALFORMED is put in the mode wait, with the stall timer started once (R143, R161, R165, R166, R167; the window
of a read is that of its first piece in one, assumption 32). -/
def Obligations.IngressAcceptsHoldsAndEvaluates : Prop :=
  (∀ (s : State) (r : UpRequest), 1 ≤ r.length → r.length ≤ 256 →
    (s.ingress.queue.length < 8 → exec (.upstreamRequest r) s =
      .next { s with ingress := { s.ingress with queue := s.ingress.queue ++ [r] } }) ∧
    (8 ≤ s.ingress.queue.length → exec (.upstreamRequest r) s = .next s)) ∧
  (∀ s : State, (s.ingress.queue = [] ∨ s.ingress.wait ≠ none ∨ s.ingress.handOver ≠ []) →
    exec .headEvaluation s = .next s) ∧
  (∀ (s : State) (r : UpRequest), s.HeadIs r → 2 ^ 48 < r.addr.toNat + r.length →
    exec .headEvaluation s = .next (s.endRequest (requesterOf r) .memoryError)) ∧
  ∀ (s : State) (r : UpRequest) (w : WindowIx) (a : Addr), s.HeadIs r → r.addr.toNat + r.length ≤ 2 ^ 48 →
    (∀ v b d, s.markerCheck r ≠ .malformed v b d) → s.firstJournalPiece r = some (w, a) → s.mode.evaluates = false →
    ∃ held, exec .headEvaluation s = .next { s with ingress := { s.ingress with
        wait := some (.mode held)
        timer := some (s.ingress.timer.getD ⟨s.timebase, s.settings.stallTimeout⟩) } } ∧
      (∀ v b cmd x, s.markerCheck r = .marker v b cmd x → held = .marker cmd v b) ∧
      (∀ bs, s.markerCheck r = .none → r.kind = .write bs → held = .data w a) ∧
      ∀ n, r.kind = .read n → held = .data w r.addr

/-- The expiry of the stall timer ends the head by the rule of the wait it is in; before the timer's end, or without a wait,
nothing happens (R53, R60, R72, R145, R167, R168). That an expiry which is not due, or finds no wait, changes nothing is the
model's choice (assumption 6); that a slot wait whose walk recorded an earlier failure is answered with that reason, while the
waiting context fails STALL, is its reading of R53 and R55 (assumption 8); that the mode wait answers and reports by the marker or
data classification, the window and the address found when the wait was entered, whatever the window table has become, is its
choice (assumption 31). -/
def Obligations.StallExpiryEndsTheWait : Prop :=
  ∀ (s : State),
    (s.ingress.wait = none → exec .stallTimerExpiry s = .next s) ∧
    ∀ (r : UpRequest) (timer : StallTimer), s.ingress.queue.head? = some r → s.ingress.timer = some timer →
      (s.timebase.toNat < timer.start.toNat + timer.length → exec .stallTimerExpiry s = .next s) ∧
      (timer.start.toNat + timer.length ≤ s.timebase.toNat →
        let timedOut := fun (w : WindowIx) (a : Addr) =>
          (s.endRequest (requesterOf r) .timeout).push (.requestTimeout r.initiator w a)
        let refused := fun (why : MarkerRefusal) (w : WindowIx) (a : Addr) =>
          (s.endRequest (requesterOf r) (.refused (.marker why))).push (.markerRefused none r.initiator w why a)
        let recorded := s.ingress.walk.bind Walk.failed
        (∀ w a, s.ingress.wait = some (.mode (.marker .openTxn w a)) →
          exec .stallTimerExpiry s = .next (refused .mode w a)) ∧
        (∀ cmd w a, cmd ≠ .openTxn → s.ingress.wait = some (.mode (.marker cmd w a)) →
          exec .stallTimerExpiry s = .next (refused .noContext w a)) ∧
        (∀ w a, s.ingress.wait = some (.mode (.data w a)) → exec .stallTimerExpiry s = .next (timedOut w a)) ∧
        (∀ w a, s.ingress.wait = some (.bare w a) → exec .stallTimerExpiry s = .next (timedOut w a)) ∧
        (∀ w, s.ingress.wait = some (.tracking w) → exec .stallTimerExpiry s = .next (timedOut w r.addr)) ∧
        (∀ c line o f since idle, s.ingress.wait = some (.slot c line) → s.ctx c = .opened o f since idle →
          exec .stallTimerExpiry s = .next (State.push
            (State.endRequest
              { s with
                contexts := s.contexts.set c (.failed o .stall s.timebase (some s.settings.orphanTimeout))
                hold := s.hold.filter fun h => h.owner ≠ c }
              (requesterOf r) (.failed (.context (recorded.getD .stall))))
            (.txnFailed c o.initiator o.window none .stall (some line) (s.entryCount c)))) ∧
        (∀ c line o why since orphan, s.ingress.wait = some (.slot c line) → s.ctx c = .failed o why since orphan →
          exec .stallTimerExpiry s =
            .next (s.endRequest (requesterOf r) (.failed (.context (recorded.getD why))))))

/-- A response of a handed-over request lowers its pending answer's count, marking it failed for an error; with the last one
the request is answered (R169, R176). -/
def Obligations.IngressResponseCounts : Prop :=
  ∀ (s : State) (tag : XferTag) (e : OutEntry) (id : Nat) (p : PendingAnswer) (response : DownResponse),
    s.entry tag = some e → e.ref = .pendingAnswer id → (s.ingress.answers.find? fun q => q.id = id) = some p →
    (∀ n data, e.kind = .read n → response = .ack data → data.length = n) →
    let taken := { s with downstream := { s.downstream with
      outstanding := s.downstream.outstanding.filter fun d => d.tag ≠ tag } }
    let failed := p.failed || response = .error
    (2 ≤ p.remaining → exec (.ingressResponse tag response) s = .next { taken with ingress := { s.ingress with
      answers := s.ingress.answers.map fun q =>
        if q.id = id then { q with remaining := q.remaining - 1, failed := failed } else q } }) ∧
    (p.remaining ≤ 1 →
      let code : AnswerCode := if failed then .memoryError else
        match e.kind, response with
        | .read _, .ack data => .ok data
        | _, _ => .ok []
      exec (.ingressResponse tag response) s = .next { taken with
        ingress := { s.ingress with answers := s.ingress.answers.filter fun q => q.id ≠ id }
        upOut := s.upOut ++ [⟨p.requester, code⟩] })

/-- While fewer than 32 requests are outstanding the first ready requester in ring order is granted: its request is issued
with the first transfer tag from the counter up that no entry holds, and entered with the response timeout as it stands; the
search moves past it. The granted request leaves its requester: the writer's record flush or the first write of its
open batch, then counted as unanswered, the first request of the ring manager or the recovery engine, the release engine's
presented write, then counted as issued, with the next ready write presented. With 32 outstanding, or none ready, nothing is
granted (R91, R92, R93, R113, R125, R156, R166, R172, R173, R174). -/
def Obligations.GrantIssuesFirstReadyRequest : Prop :=
  (∀ s : State, 32 ≤ s.downstream.outstanding.length → exec .arbiterGrant s = .next s) ∧
  (∀ s : State, (∀ p, s.presents p = none) → exec .arbiterGrant s = .next s) ∧
  ∀ (s : State) (before after : List Port) (p : Port) (q : DownRequest) (ref : Ref),
    s.downstream.outstanding.length < 32 → s.downstream.searchFrom.ringFrom = before ++ p :: after →
    (∀ b ∈ before, s.presents b = none) → s.presents p = some (q, ref) →
    ∃ (t : State) (tag : XferTag) (skipped : Nat), exec .arbiterGrant s = .next t ∧
      tag = s.downstream.counter + BitVec.ofNat 16 skipped ∧
      (∀ j, j < skipped → ∃ e ∈ s.downstream.outstanding, e.tag = s.downstream.counter + BitVec.ofNat 16 j) ∧
      (∀ e ∈ s.downstream.outstanding, e.tag ≠ tag) ∧
      t.downstream =
        { outstanding := s.downstream.outstanding ++
            [⟨tag, q.kind, q.address, ref, s.timebase, s.settings.downstreamTimeout⟩]
          counter := tag + 1
          searchFrom := p.next } ∧
      t.dnOut = s.dnOut ++ [(tag, q)] ∧
      (p = .ingress → t.ingress = { s.ingress with handOver := s.ingress.handOver.tail }) ∧
      (p ≠ .ingress → t.ingress = s.ingress) ∧ (p ≠ .writer → t.writer = s.writer) ∧ (p ≠ .ring → t.ring = s.ring) ∧
      (∀ contexts, p = .writer → s.writer.flight = some ⟨contexts, true⟩ →
        t.writer = { s.writer with flight := some ⟨contexts, false⟩ }) ∧
      (∀ done b more writes, p = .writer → (∀ contexts, s.writer.flight ≠ some ⟨contexts, true⟩) →
        s.writer.openBatch = done ++ b :: more → (∀ d ∈ done, d.toIssue = []) → b.toIssue = q :: writes →
        ref = .recordWrite b.context ∧ t.writer = { s.writer with
          openBatch := done ++ { b with toIssue := writes, unanswered := b.unanswered + 1 } :: more }) ∧
      (p = .ring → t.ring.toIssue = s.ring.toIssue.tail ∧
        (ref ≠ .homeFlush → t.ring = { s.ring with toIssue := s.ring.toIssue.tail })) ∧
      (p = .recovery → ref ≠ .replayMarker → t.recovery = { s.recovery with toIssue := s.recovery.toIssue.tail }) ∧
      (∀ w, p = .release → s.release.presented = some w →
        let issued := s.release.releasing.map fun x => match w with
          | .line c => if x.context = c then { x with issued := x.issued + 1 } else x
          | .marker c => if x.context = c then { x with markerIssued := true } else x
        s.releaseRequest w = some (q, ref) ∧ t.release = { s.release with
          releasing := issued
          presented := if s.release.active then readyWrite s.entryCount issued true true else none }) ∧
      (p ≠ .release → t.release = s.release) ∧ (p ≠ .recovery → t.recovery = s.recovery) ∧
      t = { s with
        downstream := t.downstream, dnOut := t.dnOut, ingress := t.ingress, writer := t.writer, ring := t.ring
        release := t.release, recovery := t.recovery }

/-- A response that matches no outstanding entry is discarded. The expiry of a response timer pushes DOWNSTREAM_TIMEOUT and
then does what an error response to the request does (R174, R175, R176); that an expiry which is not due, or names no entry, changes
nothing is the model's choice (assumption 6). -/
def Obligations.TimeoutActsAsErrorAndLateIsDiscarded : Prop :=
  (∀ (c : Instr) (s : State) (tag : XferTag) (response : DownResponse), responseOf c = some (tag, response) →
    (∀ e ∈ s.downstream.outstanding, e.tag ≠ tag) → exec c s = .next s) ∧
  (∀ (s : State) (tag : XferTag), (∀ e ∈ s.downstream.outstanding, e.tag ≠ tag) →
    exec (.responseTimerExpiry tag) s = .next s) ∧
  ∀ (s : State) (tag : XferTag) (e : OutEntry), s.entry tag = some e →
    (s.timebase.toNat < e.issuedAt.toNat + e.timeout → exec (.responseTimerExpiry tag) s = .next s) ∧
    (e.issuedAt.toNat + e.timeout ≤ s.timebase.toNat → ∃ t,
      exec (.responseTimerExpiry tag) s = .next t ∧
      exec (e.ref.responseCommand tag .error)
        (s.push (.downstreamTimeout (s.refInitiator e.ref) e.ref.port e.address)) = .next t)

/-! ## The journal writer (chapter 5) -/

/-- The writer takes the head of the commit queue with its reservation: the record goes at the head, or at offset 0 behind a
pad that fills the ring end; where it is not granted the space request is set and the written batch is flushed; a space request
that is set or cleared has the ring manager check its start conditions in the same step; where
conditions 1 to 4 of R83 do not hold a batch that is due is flushed (R83, R84, R93, R107, R108, R109, R112). That a writer which
waits for space takes a head that can now be granted and else does nothing is the model's reading (assumption 10), and so is that
a lowered FLUSH_BATCH acts at this check (assumption 29). -/
def Obligations.CommitHeadReservesAndJoinsBatch : Prop :=
  (∀ s : State,
    let due := s.writer.active = true ∧ s.writer.openBatch ≠ [] ∧
      (∀ b ∈ s.writer.openBatch, b.toIssue = [] ∧ b.unanswered = 0) ∧ s.writer.flight = none ∧
      (s.settings.flushBatch ≤ s.writer.openBatch.length ∨ s.writer.commitQueue = [] ∨ s.ring.spaceRequest = true ∨
        ¬(s.mode = .online ∨ s.mode = .draining))
    ¬(s.writer.active = true ∧ (s.mode = .online ∨ s.mode = .draining) ∧ s.writer.commitQueue ≠ [] ∧
      s.writer.openBatch.length < s.settings.flushBatch) →
    (due → exec .takeCommitHead s = .next { s with writer := { s.writer with
      openBatch := [], flight := some ⟨s.writer.openBatch.map BatchRecord.context, true⟩ } }) ∧
    (¬due → exec .takeCommitHead s = .next s)) ∧
  ∀ (s : State) (c : ContextIx) (rest : List ContextIx) (o : Owner) (f : Bool) (m : CommitMarker) (p : Option Requester),
    s.writer.active = true → (s.mode = .online ∨ s.mode = .draining) → s.writer.commitQueue = c :: rest →
    s.writer.openBatch.length < s.settings.flushBatch → s.ctx c = .queued o f m p →
    let n := 96 + 80 * s.entryCount c
    let size := s.ringSize
    let pad := size - s.ring.head
    let q := s.ring.nextSequence
    let taken := fun (offset : Nat) (padWrites : List DownRequest) (g : Ring) =>
      { s with
        contexts := s.contexts.set c (.writing o f m ⟨q, offset⟩ p)
        writer := { s.writer with
          commitQueue := rest
          openBatch := s.writer.openBatch ++ [⟨c, padWrites ++
            writesAt (s.ringAddr offset) (recordBytes s.ring.epoch o f m q (s.slotList c)), 0⟩] }
        ring :=
          let h := { g with nextSequence := q + 1, spaceRequest := false }
          if s.ring.spaceRequest then h.startChecked s.mode s.settings.anchorInterval else h }
    let refused :=
      Ring.startChecked { s.ring with spaceRequest := true, again := s.ring.again || s.ring.update ≠ .idle } s.mode
        s.settings.anchorInterval
    (s.ring.head + n ≤ size → n ≤ size - s.ring.live → exec .takeCommitHead s = .next (taken s.ring.head []
      { s.ring with head := if s.ring.head + n = size then 0 else s.ring.head + n, live := s.ring.live + n })) ∧
    (size < s.ring.head + n → pad + n ≤ size - s.ring.live → n < size →
      exec .takeCommitHead s = .next (taken 0 (writesAt (s.ringAddr s.ring.head) (padBytes pad q))
        (if s.ring.retiredSequence = q then
          { s.ring with
            head := n, live := s.ring.live + pad + n, retiredOffset := 0, unanchored := s.ring.unanchored + pad
            pendingPad := none }
        else
          { s.ring with head := n, live := s.ring.live + pad + n, pendingPad := some ⟨s.ring.head, pad⟩ }))) ∧
    ((s.ring.head + n ≤ size ∧ size - s.ring.live < n ∨ size < s.ring.head + n ∧ size - s.ring.live < pad + n) →
      (s.ring.spaceRequest = true → exec .takeCommitHead s = .next s) ∧
      (s.ring.spaceRequest = false →
        let flush := s.writer.openBatch ≠ [] ∧ s.writer.flight = none ∧
          ∀ b ∈ s.writer.openBatch, b.toIssue = [] ∧ b.unanswered = 0
        (flush → exec .takeCommitHead s = .next
          { s with
            ring := refused
            writer := { s.writer with openBatch := [],
                                      flight := some ⟨s.writer.openBatch.map BatchRecord.context, true⟩ } }) ∧
        (¬flush → exec .takeCommitHead s = .next
          { s with ring := refused })))

/-- An acknowledged record write is counted for its record while the writer is ACTIVE, and the record flush is presented once
every record of the batch is written and the batch is full or no further head can be taken; a STOPPED writer absorbs every
answer (R92, R93, R98). -/
def Obligations.RecordWriteAcknowledgedFlushesBatch : Prop :=
  ∀ (s : State) (tag : XferTag) (e : OutEntry) (c : ContextIx), s.entry tag = some e → e.ref = .recordWrite c →
    e.kind = .write →
    let taken := { s with downstream := { s.downstream with
      outstanding := s.downstream.outstanding.filter fun d => d.tag ≠ tag } }
    let batch := s.writer.openBatch.map fun b => if b.context = c then { b with unanswered := b.unanswered - 1 } else b
    let stuck := s.writer.commitQueue = [] ∨ s.ring.spaceRequest = true ∨ ¬(s.mode = .online ∨ s.mode = .draining)
    let flush := batch ≠ [] ∧ (∀ b ∈ batch, b.toIssue = [] ∧ b.unanswered = 0) ∧ s.writer.flight = none ∧
      (s.settings.flushBatch ≤ batch.length ∨ stuck)
    (∀ response, s.writer.active = false → exec (.recordWriteResponse tag response) s = .next taken) ∧
    ∀ data, s.writer.active = true →
      (flush → exec (.recordWriteResponse tag (.ack data)) s = .next { taken with writer := { s.writer with
        openBatch := [], flight := some ⟨batch.map BatchRecord.context, true⟩ } }) ∧
      (¬flush → exec (.recordWriteResponse tag (.ack data)) s =
        .next { taken with writer := { s.writer with openBatch := batch } })

/-- An acknowledged record flush makes the contexts it covers DURABLE in order: they join the release queue, each pending
COMMIT is answered OK, and TXN_DURABLE is pushed where the window enables it (R35, R94). -/
def Obligations.RecordFlushMakesContextsDurable : Prop :=
  ∀ (s : State) (tag : XferTag) (e : OutEntry) (flight : RecordFlush) (data : List Byte),
    s.entry tag = some e → e.ref = .recordFlush → e.kind = .flush → s.writer.active = true →
    s.writer.flight = some flight → flight.contexts.Nodup → (∀ c ∈ flight.contexts, (s.ctx c).isWriting = true) →
    let due := s.writer.openBatch ≠ [] ∧ (∀ b ∈ s.writer.openBatch, b.toIssue = [] ∧ b.unanswered = 0) ∧
      (s.settings.flushBatch ≤ s.writer.openBatch.length ∨ s.writer.commitQueue = [] ∨ s.ring.spaceRequest = true ∨
        ¬(s.mode = .online ∨ s.mode = .draining))
    ∃ t, exec (.recordFlushResponse tag (.ack data)) s = .next t ∧
      (∀ c ∈ flight.contexts, ∀ o f m pl p, s.ctx c = .writing o f m pl p → t.ctx c = .durable o f m pl) ∧
      (∀ c, c ∉ flight.contexts → t.ctx c = s.ctx c) ∧
      t.release = { s.release with queue := s.release.queue ++ flight.contexts } ∧
      t.upOut = s.upOut ++ flight.contexts.filterMap (fun c => (s.ctx c).pending?.map fun p => ⟨p, .ok []⟩) ∧
      t.events = (s.pushAll (flight.contexts.filterMap fun c =>
        match s.ctx c with
        | .writing o _ _ pl _ =>
          if (s.window o.window).durableEvent then
            some (.txnDurable c o.initiator o.window pl.sequence (s.entryCount c)) else none
        | _ => none)).events ∧
      (due → t.writer = { s.writer with
        openBatch := [], flight := some ⟨s.writer.openBatch.map BatchRecord.context, true⟩ }) ∧
      (¬due → t.writer = { s.writer with flight := none }) ∧
      t = { s with
        contexts := t.contexts, release := t.release, upOut := t.upOut, events := t.events, writer := t.writer
        downstream := { s.downstream with outstanding := s.downstream.outstanding.filter fun d => d.tag ≠ tag } }

/-- A failed record write, a failed record flush and a failed request of an anchor update started in ONLINE or DRAINING are
journal faults, each with its own JOURNAL_FAULT: the writer stops, every QUEUED and WRITING context goes FREE with its slots
discarded and its COMMIT answered FAILED/JOURNAL, every OPEN context fails, the rest is untouched, the anchor update is abandoned
with tail, live bytes, generation and next copy as they were, and the mode becomes FAULTED, with the events in their order (R35,
R38, R52, R55, R60, R71, R96, R97, R117, R118, R144, R177). That the reason a walk at the head recorded first stands against
JOURNAL is the model's reading of R55 (assumption 8). -/
def Obligations.FailedJournalRequestIsJournalFault : Prop :=
  ∀ (s : State) (tag : XferTag) (e : OutEntry) (d : JournalDetail) (q : Option Word64) (a : Option Addr),
    s.PipelineLaw → s.entry tag = some e →
    ((∃ c, e.ref = .recordWrite c ∧ s.writer.active = true ∧ d = .write ∧ q = (s.ctx c).sequence? ∧ a = e.address) ∨
      (∃ f, e.ref = .recordFlush ∧ s.writer.active = true ∧ s.writer.flight = some f ∧ d = .flush ∧ a = none ∧
        q = f.contexts.head?.bind fun c => (s.ctx c).sequence?) ∨
      s.ring.closing = false ∧ q = s.ring.snapshot.map Snapshot.sequence ∧
        (e.ref = .anchorWrite ∧ s.ring.update = .anchorWrite ∧ d = .anchorWrite ∧ e.address.isSome = true ∧ a = e.address ∨
          (e.ref = .homeFlush ∧ s.ring.update = .homeFlush ∨ e.ref = .anchorFlush ∧ s.ring.update = .anchorFlush) ∧
            d = .anchorFlush ∧ a = some (s.copyAddr s.ring.nextCopy))) →
    ∃ t, exec (e.ref.responseCommand tag .error) s = .next t ∧
      (∀ x, t.ctx x = if (s.ctx x).isQueued || (s.ctx x).isWriting then .free
        else (s.ctx x).failedBy .journal s.timebase s.settings.orphanTimeout) ∧
      t = { s with
        mode := .faulted
        writer := { active := false, commitQueue := [], openBatch := [], flight := none }
        contexts := t.contexts
        hold := s.hold.filter fun h =>
          !((s.ctx h.owner).isOpen || (s.ctx h.owner).isQueued || (s.ctx h.owner).isWriting)
        upOut := s.upOut ++ s.sealing.filterMap fun x =>
          (s.ctx x).pending?.map fun p => ⟨p, .failed (.context .journal)⟩
        events := (s.pushAll (.journalFault q d a s.sealing.length ::
          (if s.mode = .faulted then [] else [.modeChange .faulted s.mode]) ++ s.sealingFailures ++
          s.openFailures .journal)).events
        ring := { s.ring with
          update := .idle, snapshot := none, closing := false, toIssue := [], writesAcked := 0
          again := false, spaceRequest := false }
        ingress := s.ingress.afterFailure .journal
          (s.hold.any fun h => (s.ctx h.owner).isOpen || (s.ctx h.owner).isQueued || (s.ctx h.owner).isWriting)
          (fun x => (s.ctx x).isOpen) (decide (s.mode ≠ .faulted))
        downstream := { s.downstream with outstanding := s.downstream.outstanding.filter fun d => d.tag ≠ tag } }

/-- A record is a 64-byte header, 80 bytes for each slot in slot list order and a 32-byte trailer, 96 + 80n bytes in all, a
multiple of 16. A record the writer writes is valid to a scan that expects it, and its replay makes the very writes its release
makes: the same line writes in the same order, then the same marker write (R85, R86, R87, R88, R89, R124, R154, R156). -/
def Obligations.WrittenRecordReplaysAsReleased : Prop :=
  (∀ (epoch : Word32) (o : Owner) (f : Bool) (m : CommitMarker) (q : Word64) (slots : List HeldSlot),
    (∀ h ∈ slots, h.bytes.length = 64) →
    ∃ header trailer : List Byte, header.length = 64 ∧ trailer.length = 32 ∧
      (∀ h ∈ slots, (recordEntry h).length = 80) ∧
      recordBytes epoch o f m q slots = header ++ (slots.map recordEntry).flatten ++ trailer ∧
      (recordBytes epoch o f m q slots).length = 96 + 80 * slots.length ∧
      (recordBytes epoch o f m q slots).length % 16 = 0) ∧
  ∀ (epoch : Word32) (o : Owner) (f : Bool) (m : CommitMarker) (q : Word64) (slots : List HeldSlot)
    (offset scanned size : Nat),
    (∀ h ∈ slots, h.bytes.length = 64) → 1 ≤ slots.length → slots.length ≤ 256 →
    offset + recordLength slots.length ≤ size → scanned + recordLength slots.length ≤ size →
    let record := recordBytes epoch o f m q slots
    headerPasses (record.take 64) epoch q offset scanned size = true ∧ trailerPasses record = true ∧
      field record 0 4 = Config.recordMagic ∧ field record 18 2 = slots.length ∧
      replayWrites record slots.length = slots.map (fun h => .write h.line h.bytes) ∧
      markerWrite (BitVec.ofNat 48 (field record 40 8)) (BitVec.ofNat 64 (field record 48 8)) =
        markerWrite m.address m.value

/-! ## The ring and its anchors (chapter 6) -/

/-- An anchor update starts exactly where R112 lets it, clearing the again flag and presenting the home FLUSH; the grant of
the home FLUSH takes the snapshot and counts retirements anew, but for the closing update of a recovery (R112, R113). -/
def Obligations.AnchorUpdateStartsAndTakesSnapshot : Prop :=
  (∀ s : State,
    let due := s.ring.update = .idle ∧ (s.mode = .online ∨ s.mode = .draining) ∧ s.ring.unanchored ≠ 0 ∧
      (s.settings.anchorInterval ≤ s.ring.retirements ∨ s.ring.spaceRequest = true ∨ s.mode = .draining ∨
        s.ring.again = true)
    (due → exec .anchorUpdateStart s = .next { s with ring := { s.ring with
      again := false, update := .homeFlush, toIssue := [(.flush, .homeFlush)] } }) ∧
    (¬due → exec .anchorUpdateStart s = .next s)) ∧
  ∀ (s : State) (before after : List Port) (rest : List (DownRequest × Ref)),
    s.downstream.outstanding.length < 32 → s.downstream.searchFrom.ringFrom = before ++ .ring :: after →
    (∀ b ∈ before, s.presents b = none) → s.ring.toIssue = (.flush, .homeFlush) :: rest →
    ∃ t, exec .arbiterGrant s = .next t ∧ t.ring =
      if s.ring.closing then { s.ring with toIssue := rest }
      else { s.ring with
        toIssue := rest
        snapshot := some ⟨s.ring.retiredOffset, s.ring.retiredSequence, s.ring.unanchored⟩
        retirements := 0 }

/-- The acknowledged home FLUSH presents the two writes of the next anchor copy with generation plus one; the first
acknowledged anchor write is counted, and the second presents the anchor FLUSH; once the update is abandoned every answer is
absorbed (R105, R114, R116). -/
def Obligations.AnchorRequestsLeadTheUpdateOn : Prop :=
  ∀ (s : State) (tag : XferTag) (e : OutEntry) (data : List Byte) (response : DownResponse), s.entry tag = some e →
    let taken := { s with downstream := { s.downstream with
      outstanding := s.downstream.outstanding.filter fun d => d.tag ≠ tag } }
    (e.ref = .homeFlush → e.kind = .flush →
      (∀ k, s.ring.update = .homeFlush → s.ring.snapshot = some k →
        exec (.homeFlushResponse tag (.ack data)) s = .next { taken with ring := { s.ring with
          update := .anchorWrite
          toIssue := (writesAt (s.copyAddr s.ring.nextCopy)
            (anchorBytes s.ring.epoch (s.ring.generation + 1) s.settings.ringSizeLog2 s.settings.journalBase k.offset
              k.sequence)).map fun w => (w, .anchorWrite)
          writesAcked := 0 } }) ∧
      (s.ring.update = .idle → exec (.homeFlushResponse tag response) s = .next taken)) ∧
    (e.ref = .anchorWrite → e.kind = .write →
      (s.ring.update = .anchorWrite → s.ring.writesAcked = 0 →
        exec (.anchorWriteResponse tag (.ack data)) s = .next { taken with ring := { s.ring with writesAcked := 1 } }) ∧
      (s.ring.update = .anchorWrite → s.ring.writesAcked = 1 →
        exec (.anchorWriteResponse tag (.ack data)) s = .next { taken with ring := { s.ring with
          update := .anchorFlush, toIssue := [(.flush, .anchorFlush)], writesAcked := 2 } }) ∧
      (s.ring.update = .idle → exec (.anchorWriteResponse tag response) s = .next taken)) ∧
    (e.ref = .anchorFlush → e.kind = .flush → s.ring.update = .idle →
      exec (.anchorFlushResponse tag response) s = .next taken)

/-- The acknowledged anchor FLUSH moves the durable tail to the snapshot and frees its bytes, whatever the writer does; a writer
that waits for space and may take a head then asks again, whether it is granted with or without a pad or refused; the drain is
completed where nothing is left, and a new update starts at once where its conditions hold, all in the one step (R107, R108, R112,
R115, R183; that a writer held back by its batch asks later is the model's reading, assumption 10). -/
def Obligations.AnchorFlushMovesDurableTail : Prop :=
  ∀ (s : State) (tag : XferTag) (e : OutEntry) (data : List Byte) (k : Snapshot), s.entry tag = some e →
    e.ref = .anchorFlush → e.kind = .flush → s.ring.update = .anchorFlush → s.ring.closing = false →
    s.ring.snapshot = some k →
    let moved := { s with
      downstream := { s.downstream with outstanding := s.downstream.outstanding.filter fun d => d.tag ≠ tag }
      ring := { s.ring with
        durableOffset := k.offset, durableSequence := k.sequence
        live := s.ring.live - k.unanchored, unanchored := s.ring.unanchored - k.unanchored
        generation := s.ring.generation + 1, nextCopy := s.ring.nextCopy.other
        update := .idle, snapshot := none, toIssue := [], writesAcked := 0 } }
    let answered := exec (.anchorFlushResponse tag (.ack data)) s
    let asks := s.ring.spaceRequest = true ∧ s.writer.active = true ∧ (s.mode = .online ∨ s.mode = .draining) ∧
      s.writer.commitQueue ≠ [] ∧ s.writer.openBatch.length < s.settings.flushBatch
    let done := s.mode = .draining ∧ s.writer.commitQueue = [] ∧ s.writer.openBatch = [] ∧ s.writer.flight = none ∧
      s.release.queue = [] ∧ s.release.releasing = [] ∧ s.ring.unanchored - k.unanchored = 0
    (¬asks → ¬done → answered =
      .next { moved with ring := moved.ring.startChecked s.mode s.settings.anchorInterval }) ∧
    (done → answered = .next
      { moved.pushAll [.modeChange .drained .draining, .drainDone k.sequence] with mode := .drained }) ∧
    (∀ c o f m p rest, asks → s.writer.commitQueue = c :: rest → s.ctx c = .queued o f m p → ∃ u,
      exec .takeCommitHead { moved with ring := { moved.ring with spaceRequest := false } } = .next u ∧
      answered = .next { u with ring := u.ring.startChecked s.mode s.settings.anchorInterval }) ∧
    ∃ t, answered = .next t ∧ t.ring.durableOffset = k.offset ∧ t.ring.durableSequence = k.sequence ∧
      t.ring.generation = s.ring.generation + 1 ∧ t.ring.nextCopy = s.ring.nextCopy.other ∧
      (t.ring.update = .idle ∨ t.ring.update = .homeFlush) ∧ t.ring.snapshot = none

/-- An anchor that the ring manager writes is valid to the next recovery and reads back as it was written, and it is the one chosen
where the other copy is not valid or of a lower generation, or of the same generation as a copy A (R105, R150). -/
def Obligations.WrittenAnchorIsChosenBack : Prop :=
  ∀ (copy : AnchorCopy) (epoch : Word32) (generation : Word64) (log2 : Nat) (base : Addr) (tail : Nat) (q : Word64),
    log2 ≤ 30 → tail < 2 ^ log2 → tail % 16 = 0 →
    let bytes := anchorBytes epoch generation log2 base tail q
    let chosen : ChosenAnchor := ⟨copy, generation, epoch, tail, q⟩
    bytes.length = 128 ∧ anchorValid bytes log2 base = true ∧
      anchorFields copy bytes = chosen ∧
      (∀ other, copy = .a → (anchorValid other log2 base = false ∨ field other 8 8 ≤ generation.toNat) →
        chooseAnchor bytes other log2 base = some chosen) ∧
      ∀ other, copy = .b → (anchorValid other log2 base = false ∨ field other 8 8 < generation.toNat) →
        chooseAnchor other bytes log2 base = some chosen

/-! ## Release and retirement (chapter 7) -/

/-- The release engine takes the head of the release queue while it is ACTIVE with fewer than 4 releasing contexts, and
presents the ready write where it has none presented (R123, R125). -/
def Obligations.ReleaseTakesQueueHead : Prop :=
  ∀ (s : State) (c : ContextIx) (rest : List ContextIx) (o : Owner) (f : Bool) (m : CommitMarker) (pl : RecordPlace),
    s.release.queue = c :: rest → s.ctx c = .durable o f m pl →
    let releasing := s.release.releasing ++ [⟨c, 0, 0, false, false⟩]
    (s.release.active = true → s.release.releasing.length < 4 → exec .releaseTakeHead s = .next
      { s with
        contexts := s.contexts.set c (.releasing o f m pl)
        release := { s.release with
          queue := rest, releasing := releasing
          presented := s.release.presented.or (readyWrite s.entryCount releasing true true) } }) ∧
    (s.release.active = false ∨ 4 ≤ s.release.releasing.length → exec .releaseTakeHead s = .next s)

/-- An acknowledged release write is counted in its context's progress while the engine is ACTIVE, which presents the write that is
then ready where it has none presented; a HALTED engine absorbs every answer (R125, R126, R133). -/
def Obligations.ReleaseAcknowledgementsCounted : Prop :=
  ∀ (s : State) (tag : XferTag) (e : OutEntry) (c : ContextIx) (data : List Byte), s.entry tag = some e →
    e.kind = .write →
    let taken := { s with downstream := { s.downstream with
      outstanding := s.downstream.outstanding.filter fun d => d.tag ≠ tag } }
    let counted := fun (update : Progress → Progress) =>
      let releasing := s.release.releasing.map fun p => if p.context = c then update p else p
      { taken with release := { s.release with
        releasing := releasing
        presented := s.release.presented.or (readyWrite s.entryCount releasing true true) } }
    ((e.ref = .releaseLine c ∨ e.ref = .releaseMarker c) → s.release.active = false →
      ∀ response, exec (.releaseWriteResponse tag response) s = .next taken) ∧
    (s.release.active = true →
      (e.ref = .releaseLine c →
        exec (.releaseWriteResponse tag (.ack data)) s = .next (counted fun p => { p with acked := p.acked + 1 })) ∧
      (e.ref = .releaseMarker c →
        exec (.releaseWriteResponse tag (.ack data)) s = .next (counted fun p => { p with markerAcked := true })))

/-- An ACTIVE engine with no write presented presents the ready write of the first releasing context that has one, and none where
none has: its next line write, the slot at the first unissued place of its slot list, once every earlier context has issued all its
lines; its marker write, the commit marker value, once all its own lines are acknowledged and every earlier context has issued its
marker write (R124, R125). -/
def Obligations.MarkerFollowsAcknowledgedLines : Prop :=
  ∀ s : State, s.release.active = true → s.release.presented = none → (s.release.releasing.map Progress.context).Nodup →
    let lineReady := fun (before : List Progress) (p : Progress) =>
      p.issued < s.entryCount p.context ∧ ∀ b ∈ before, s.entryCount b.context ≤ b.issued
    let markerReady := fun (before : List Progress) (p : Progress) =>
      p.issued = s.entryCount p.context ∧ p.acked = s.entryCount p.context ∧ p.markerIssued = false ∧
        ∀ b ∈ before, b.markerIssued = true
    let idle := fun (set : List Progress) => ∀ before p after, set = before ++ p :: after →
      ¬lineReady before p ∧ ¬markerReady before p
    (idle s.release.releasing → s.presentRelease = s) ∧
    ∀ before p after, s.release.releasing = before ++ p :: after → idle before →
      (lineReady before p → ∃ h, (s.slotList p.context)[p.issued]? = some h ∧
        s.presentRelease = { s with release := { s.release with presented := some (.line p.context) } } ∧
        s.presentRelease.presents .release = some (.write h.line h.bytes, .releaseLine p.context)) ∧
      (markerReady before p →
        s.presentRelease = { s with release := { s.release with presented := some (.marker p.context) } } ∧
        ∀ o f m pl, s.ctx p.context = .releasing o f m pl → s.presentRelease.presents .release =
          some (.write (lineOf m.address) (lineBytesAt (posOf m.address) ((leBytes 8 m.value.toNat).map some)),
            .releaseMarker p.context))

/-- A failed release write halts the engine, fails every OPEN context and makes the mode FAULTED; committed contexts keep
their states and slots, and the ACTIVE writer keeps its records, of which it flushes a written batch, as no head can be taken (R39,
R52, R55, R60, R71, R93, R101, R118, R130, R131, R144, R177). That the reason a walk at the head recorded first stands against
JOURNAL is the model's reading of R55 (assumption 8). -/
def Obligations.FailedReleaseWriteHaltsEngine : Prop :=
  ∀ (s : State) (tag : XferTag) (e : OutEntry) (c : ContextIx) (d : ReleaseDetail) (o : Owner) (f : Bool)
    (m : CommitMarker) (pl : RecordPlace),
    s.entry tag = some e → (e.ref = .releaseLine c ∧ d = .line ∨ e.ref = .releaseMarker c ∧ d = .marker) →
    s.release.active = true → s.ctx c = .releasing o f m pl →
    let due := s.writer.active = true ∧ s.writer.openBatch ≠ [] ∧
      (∀ b ∈ s.writer.openBatch, b.toIssue = [] ∧ b.unanswered = 0) ∧ s.writer.flight = none
    ∃ t, exec (.releaseWriteResponse tag .error) s = .next t ∧
      (∀ x, t.ctx x = (s.ctx x).failedBy .journal s.timebase s.settings.orphanTimeout) ∧
      (due → t.writer = { s.writer with
        openBatch := [], flight := some ⟨s.writer.openBatch.map BatchRecord.context, true⟩ }) ∧
      (¬due → t.writer = s.writer) ∧
      t = { s with
        mode := .faulted
        release := { s.release with active := false, presented := none }
        contexts := t.contexts
        hold := s.hold.filter fun h => !(s.ctx h.owner).isOpen
        events := (s.pushAll (.releaseFault c o.initiator o.window pl.sequence d e.address ::
          (if s.mode = .faulted then [] else [.modeChange .faulted s.mode]) ++ s.openFailures .journal)).events
        ring := { s.ring with
          update := .idle, snapshot := none, closing := false, toIssue := [], writesAcked := 0
          again := false, spaceRequest := false }
        writer := t.writer
        ingress := s.ingress.afterFailure .journal (s.hold.any fun h => (s.ctx h.owner).isOpen)
          (fun x => (s.ctx x).isOpen) (decide (s.mode ≠ .faulted))
        downstream := { s.downstream with outstanding := s.downstream.outstanding.filter fun d => d.tag ≠ tag } }

/-- The first releasing context retires once its marker write is acknowledged: its slots go FREE, the retired tail moves over its
record and over a pad that follows it, the ring manager checks its start conditions in the same step, TXN_RETIRED is pushed where
enabled, and the context goes FREE; where the next first context has not completed its release, a head that waits for slots, for
the committed slots of its line or for a tracking entry is then evaluated again. Any other first context, or a HALTED engine,
retires nothing (R62, R110, R112, R125, R127, R128, R129; that the again flag is set only when the count passes from below K to K
is the model's reading, assumption 11). -/
def Obligations.FirstCompleteContextRetires : Prop :=
  (∀ s : State, (s.release.active = false ∨ s.release.releasing = [] ∨
      ∃ p rest, s.release.releasing = p :: rest ∧ p.markerAcked = false) → exec .retirement s = .next s) ∧
  ∀ (s : State) (p : Progress) (rest : List Progress) (o : Owner) (f : Bool) (m : CommitMarker) (pl : RecordPlace),
    s.release.active = true → s.release.releasing = p :: rest → p.markerAcked = true →
    s.ctx p.context = .releasing o f m pl →
    let c := p.context
    let n := recordLength (s.entryCount c)
    let past := if pl.offset + n = s.ringSize then 0 else pl.offset + n
    let count := min 64 (s.ring.retirements + 1)
    let hold := s.hold.filter fun h => h.owner ≠ c
    let moved := { s.ring with
      retiredOffset := past, retiredSequence := pl.sequence + 1, unanchored := s.ring.unanchored + n, retirements := count
      again := s.ring.again || (s.ring.update ≠ .idle && s.ring.retirements < s.settings.anchorInterval &&
        s.settings.anchorInterval ≤ count) }
    let retired := { s with
      contexts := s.contexts.set c .free
      hold := hold
      release := { s.release with
        releasing := rest
        presented := s.release.presented.or (readyWrite (State.entryCount { s with hold := hold }) rest true true) }
      events := (if (s.window o.window).retiredEvent then
        s.push (.txnRetired c o.initiator o.window pl.sequence (s.entryCount c)) else s).events
      ring := Ring.startChecked
        (match s.ring.pendingPad with
        | some pad => if pad.offset = past then { moved with
              retiredOffset := 0, unanchored := s.ring.unanchored + n + pad.length, pendingPad := none }
            else moved
        | none => moved) s.mode s.settings.anchorInterval }
    let runs := ∃ q more, rest = q :: more ∧ q.markerAcked = true
    ((s.ingress.wait = none ∨ (∃ held, s.ingress.wait = some (.mode held)) ∨ runs) → exec .retirement s = .next retired) ∧
    ∀ w, s.ingress.wait = some w → (∀ held, w ≠ .mode held) → ¬runs →
      exec .retirement s = exec .headEvaluation { retired with ingress := { s.ingress with wait := none } }

/-! ## Modes, the drain and recovery (chapters 8 and 10) -/

/-- A CONTROL write is refused whole with BADADDR or BUSY by the first check it fails; one that passes changes IRQ_ENABLE, then
clears the overflow flag; a START in INIT then makes the mode RECOVERING and presents the READs of both anchor copies (R140,
R141, R190, R195). -/
def Obligations.ControlWriteCarriedOutWholeOrRefused : Prop :=
  ∀ (c : Instr) (v : Word32) (s : State), controlWord c = some v →
    let start := v.getLsbD 0
    let warm := v.getLsbD 2
    let both := (start && warm) || (v.getLsbD 4 && v.getLsbD 5)
    let busy := start = true ∧ s.mode ≠ .init ∨ warm = true ∧ (s.mode = .init ∨ s.mode = .recovering)
    let outside := 2 ^ 48 < s.settings.journalBase.toNat + 4096 + s.ringSize
    let refused := fun (status : Status) => { s with reply := some ⟨none, some status⟩ }
    let set := { s with
      settings := { s.settings with
        irqEnable := if v.getLsbD 4 then true else if v.getLsbD 5 then false else s.settings.irqEnable }
      events := { s.events with overflow := if v.getLsbD 3 then false else s.events.overflow }
      reply := some ⟨none, some .ok⟩ }
    (both = true → exec c s = .next (refused .badAddr)) ∧
    (both = false → busy → exec c s = .next (refused .busy)) ∧
    (both = false → ¬busy → start = true → outside → exec c s = .next (refused .badAddr)) ∧
    (both = false → start = false → warm = false → exec c s = .next set) ∧
    (both = false → ¬busy → start = true → ¬outside → exec c s = .next
      { set.push (.modeChange .recovering .init) with
        mode := .recovering
        recovery := ⟨.anchors (v.getLsbD 1) none none,
          [(.read s.settings.journalBase 128, .anchorRead .a),
           (.read (s.settings.journalBase + 128#48) 128, .anchorRead .b)]⟩ })

/-- An accepted WARM_RESET stops every block in one step: the ingress queue is answered REFUSED/RESET and then each QUEUED
context's COMMIT FAILED/RESET, the pending COMMITs of WRITING contexts go to the in-doubt list, unissued requests are withdrawn
and QUIESCE begins; the clearing step happens exactly when QUIESCE has ended (R41, R102, R119, R136, R146, R147, R148). The order of
the step's answers is the model's choice (assumption 21), and that OPEN and FAILED contexts keep their states and slots until the
clearing step is its reading of R41 (assumption 25). -/
def Obligations.WarmResetStopsThenClears : Prop :=
  (∀ (c : Instr) (v : Word32) (s : State), controlWord c = some v → v.getLsbD 2 = true → v.getLsbD 0 = false →
    (v.getLsbD 4 && v.getLsbD 5) = false → s.mode ≠ .init → s.mode ≠ .recovering →
    let set := { s with
      settings := { s.settings with
        irqEnable := if v.getLsbD 4 then true else if v.getLsbD 5 then false else s.settings.irqEnable }
      events := { s.events with overflow := if v.getLsbD 3 then false else s.events.overflow } }
    ∃ contexts : Vector Context 16, (∀ x : ContextIx, contexts[x] = (s.ctx x).atWarmReset) ∧
      exec c s = .next { set.push (.modeChange .recovering s.mode) with
        mode := .recovering
        contexts := contexts
        bindings := []
        upOut := s.upOut ++ s.ingress.queue.map (fun r => ⟨requesterOf r, .refused .reset⟩) ++
          s.writer.commitQueue.filterMap fun x => match s.ctx x with
            | .queued _ _ _ (some q) => some ⟨q, .failed .reset⟩
            | _ => none
        inDoubt := s.inDoubt ++ s.unflushed.filterMap fun x => match s.ctx x with
          | .writing _ _ _ pl (some q) => some ⟨q, pl.sequence⟩
          | _ => none
        ingress := { s.ingress with
          queue := [], wait := none, timer := none, walk := none
          handOver := s.ingress.handOver.map fun h => { h with beforeReset := true } }
        writer := { s.writer with
          active := false
          openBatch := s.writer.openBatch.map fun b => { b with toIssue := [] }
          flight := s.writer.flight.map fun f => { f with presented := false } }
        ring := { s.ring with
          update := .idle, snapshot := none, closing := false, toIssue := [], writesAcked := 0
          again := false, spaceRequest := false }
        release := { s.release with active := false, presented := none }
        recovery := ⟨.quiesce, []⟩
        reply := some ⟨none, some .ok⟩ }) ∧
  ∀ s : State,
    let ended := s.recovery.phase = .quiesce ∧ s.downstream.outstanding = [] ∧
      ∀ h ∈ s.ingress.handOver, h.beforeReset = false
    (¬ended → exec .warmResetClearing s = .next s) ∧
    (ended → exec .warmResetClearing s = .next { s with
      contexts := Vector.replicate 16 .free, bindings := [], hold := []
      writer := { s.writer with commitQueue := [], openBatch := [], flight := none }
      release := { s.release with queue := [], releasing := [], presented := none }
      ring := Ring.cold
      recovery := ⟨.anchors false none none,
        [(.read s.settings.journalBase 128, .anchorRead .a),
         (.read (s.settings.journalBase + 128#48) 128, .anchorRead .b)]⟩ })

/-- The data of an anchor READ is kept until both copies are read; then the valid copy, or of two the one with the higher
generation and A where they are equal, gives the ring its epoch, generation and next copy, and the scan begins at its tail, or a
format closes at offset 0 with sequence 1, zeroing copy B first where no copy is valid (R120, R150, R151). -/
def Obligations.AnchorsJudgedWhenBothAreRead : Prop :=
  ∀ (s : State) (tag : XferTag) (e : OutEntry) (data : List Byte) (copy : AnchorCopy) (format : Bool)
    (x y : Option (List Byte)),
    s.entry tag = some e → e.ref = .anchorRead copy → e.kind = .read data.length →
    s.recovery.phase = .anchors format x y →
    let taken := { s with downstream := { s.downstream with
      outstanding := s.downstream.outstanding.filter fun d => d.tag ≠ tag } }
    let a := if copy = .a then some data else x
    let b := if copy = .b then some data else y
    (a = none ∨ b = none → exec (.anchorReadResponse tag (.ack data)) s =
      .next { taken with recovery := { s.recovery with phase := .anchors format a b } }) ∧
    ∀ p q, a = some p → b = some q →
      let valid := fun (bytes : List Byte) => anchorValid bytes s.settings.ringSizeLog2 s.settings.journalBase = true
      let chosen := fun (k : ChosenAnchor) =>
        k = anchorFields .a p ∧ valid p ∧ (valid q → field q 8 8 ≤ field p 8 8) ∨
          k = anchorFields .b q ∧ valid q ∧ (valid p → field p 8 8 < field q 8 8)
      (∀ k, chosen k → format = false → exec (.anchorReadResponse tag (.ack data)) s = .next { taken with
        ring := { s.ring with epoch := k.epoch, generation := k.generation, nextCopy := k.copy.other }
        recovery := ⟨.scan ⟨k, k.tailOffset, k.tailSequence, 0, [], 0, .item, 0⟩,
          [(.read (s.ringAddr k.tailOffset) 16, .scanRead)]⟩ }) ∧
      (∀ k, chosen k → format = true → exec (.anchorReadResponse tag (.ack data)) s = .next { taken with
        ring := Ring.closingAsked { s.ring with
          epoch := s.settings.journalEpoch, generation := k.generation, nextCopy := k.copy.other } false 0 1
        recovery := ⟨.close ⟨some k, true, 0, 1, 0, 0⟩, []⟩ }) ∧
      (¬valid p → ¬valid q → format = true → exec (.anchorReadResponse tag (.ack data)) s = .next { taken with
        ring := { s.ring with epoch := s.settings.journalEpoch, generation := 0, nextCopy := .a }
        recovery := ⟨.close ⟨none, true, 0, 1, 0, 2⟩,
          (writesAt (s.settings.journalBase + 128#48) (List.replicate 128 0)).map fun w => (w, .zeroWrite)⟩ })

/-- The scan follows the pad or the record that the writer would have placed at the scan offset and ends at anything else: the
16 bytes decide, then the header, then the whole record with its trailer; a valid record's entry writes are presented in entry
order (R152, R153, R154, R155, R156; that the body is judged once all of it is read is the model's choice, assumption 13). -/
def Obligations.ScanFollowsOnlyTheNextItem : Prop :=
  ∀ (s : State) (tag : XferTag) (e : OutEntry) (data : List Byte) (k : Scan),
    s.entry tag = some e → e.kind = .read data.length → s.recovery.phase = .scan k →
    let taken := { s with downstream := { s.downstream with
      outstanding := s.downstream.outstanding.filter fun d => d.tag ≠ tag } }
    let size := s.ringSize
    (e.ref = .scanRead → k.step = .item →
      let pad := field data 0 4 = 0x4C4A5044 ∧ field data 8 8 = k.expected.toNat ∧ field data 4 4 = size - k.offset ∧
        k.scanned + field data 4 4 ≤ size
      let record := field data 0 4 = 0x4C4A5243 ∧ k.offset + 64 ≤ size
      (pad → exec (.scanReadResponse tag (.ack data)) s = .next { taken with recovery :=
        ⟨.scan { k with offset := 0, scanned := k.scanned + field data 4 4, step := .item, buffer := [] },
          [(.read (s.ringAddr 0) 16, .scanRead)]⟩ }) ∧
      (record → exec (.scanReadResponse tag (.ack data)) s = .next { taken with recovery :=
        ⟨.scan { k with step := .header, buffer := data },
          [(.read (s.ringAddr (k.offset + 16)) 48, .headerRead)]⟩ }) ∧
      (¬pad → ¬record → exec (.scanReadResponse tag (.ack data)) s = .next (taken.scanOver k))) ∧
    (e.ref = .headerRead → k.step = .header →
      let header := k.buffer ++ data
      let n := field header 18 2
      let length := field header 20 4
      let passes := field header 4 4 = k.chosen.epoch.toNat ∧ field header 8 8 = k.expected.toNat ∧ 1 ≤ n ∧ n ≤ 256 ∧
        length = 96 + 80 * n ∧ k.offset + length ≤ size ∧ k.scanned + length ≤ size ∧ field header 16 1 < 8
      let reads := (List.range ((length - 64 + 255) / 256)).map fun i =>
        (DownRequest.read (s.ringAddr (k.offset + (64 + 256 * i))) (min 256 (length - (64 + 256 * i))),
          Ref.bodyRead (64 + 256 * i))
      (passes → exec (.recordReadResponse tag (.ack data)) s = .next { taken with recovery :=
        ⟨.scan { k with step := .body reads.length, buffer := header ++ List.replicate (length - 64) 0 }, reads⟩ }) ∧
      (¬passes → exec (.recordReadResponse tag (.ack data)) s = .next (taken.scanOver k))) ∧
    ∀ o missing, e.ref = .bodyRead o → k.step = .body missing →
      let buffer := k.buffer.take o ++ data ++ k.buffer.drop (o + data.length)
      let n := field buffer 18 2
      let trailer := 64 + 80 * n
      let valid := field buffer trailer 4 = 0x4C4A5254 ∧ field buffer (trailer + 8) 8 = field buffer 8 8 ∧
        field buffer (trailer + 4) 4 = field buffer 20 4 ∧
        field buffer (trailer + 16) 4 = (crc32 (buffer.take trailer)).toNat
      (2 ≤ missing → exec (.recordReadResponse tag (.ack data)) s = .next { taken with recovery :=
        { s.recovery with phase := .scan { k with buffer := buffer, step := .body (missing - 1) } } }) ∧
      (missing ≤ 1 → valid → exec (.recordReadResponse tag (.ack data)) s = .next { taken with recovery :=
        ⟨.scan { k with buffer := buffer, step := .entries n, unanswered := k.unanswered + n },
          (List.range n).map fun i => (replayWrite buffer i, .replayEntry)⟩ }) ∧
      (missing ≤ 1 → ¬valid →
        exec (.recordReadResponse tag (.ack data)) s = .next (taken.scanOver { k with buffer := buffer }))

/-- The last acknowledged entry write of a record presents its marker write, whose grant moves the scan past the record; its
acknowledgement completes the record's replay and, where the scan has ended, the last one asks for the closing update; so does the
last acknowledged zeroing write (R155, R156, R157; that a record counts as replayed with its marker write is the model's choice,
assumption 14). -/
def Obligations.ReplayLeadsToTheClosingUpdate : Prop :=
  (∀ (s : State) (tag : XferTag) (e : OutEntry) (data : List Byte), s.entry tag = some e → e.kind = .write →
    let taken := { s with downstream := { s.downstream with
      outstanding := s.downstream.outstanding.filter fun d => d.tag ≠ tag } }
    let answered := exec (.replayWriteResponse tag (.ack data)) s
    (∀ k left, e.ref = .replayEntry → s.recovery.phase = .scan k → k.step = .entries left →
      (2 ≤ left → answered = .next { taken with recovery := { s.recovery with
        phase := .scan { k with unanswered := k.unanswered - 1, step := .entries (left - 1) } } }) ∧
      (left ≤ 1 → answered = .next { taken with recovery :=
        ⟨.scan { k with unanswered := k.unanswered - 1 + 1, step := .marker },
          [(markerWrite (BitVec.ofNat 48 (field k.buffer 40 8)) (BitVec.ofNat 64 (field k.buffer 48 8)),
            .replayMarker)]⟩ })) ∧
    (∀ k, e.ref = .replayMarker → s.recovery.phase = .scan k →
      let counted := { k with unanswered := k.unanswered - 1, replayed := k.replayed + 1 }
      (k.step ≠ .ended → answered = .next { taken with recovery := { s.recovery with phase := .scan counted } }) ∧
      (k.step = .ended → answered = .next (taken.scanOver counted))) ∧
    ∀ k, e.ref = .zeroWrite → s.recovery.phase = .close k →
      (2 ≤ k.zeroing → answered = .next { taken with recovery := { s.recovery with
        phase := .close { k with zeroing := k.zeroing - 1 } } }) ∧
      (k.zeroing ≤ 1 → answered = .next { taken with
        ring := s.ring.closingAsked (!k.format) k.endOffset k.endSequence
        recovery := ⟨.close { k with zeroing := 0 }, []⟩ })) ∧
  ∀ (s : State) (before after : List Port) (q : DownRequest) (rest : List (DownRequest × Ref)) (k : Scan),
    s.downstream.outstanding.length < 32 → s.downstream.searchFrom.ringFrom = before ++ .recovery :: after →
    (∀ b ∈ before, s.presents b = none) → s.recovery.toIssue = (q, .replayMarker) :: rest →
    s.recovery.phase = .scan k →
    let n := field k.buffer 20 4
    let past := if k.offset + n = s.ringSize then 0 else k.offset + n
    ∃ t, exec .arbiterGrant s = .next t ∧ t.recovery =
      ⟨.scan { k with offset := past, expected := k.expected + 1, scanned := k.scanned + n, step := .item, buffer := [] },
        [(.read (s.ringAddr past) 16, .scanRead)]⟩

/-- The acknowledged anchor FLUSH of the closing update ends recovery in one step: the ring resumes at the end of the scan, each
in-doubt COMMIT is answered OK below the end sequence and FAILED/RESET from it on, RECOVERY_DONE and MODE_CHANGE are pushed, the
mode becomes ONLINE, or while PFWARN is asserted DRAINING and by its drain check DRAINED, and the writer and the release engine
start (R100, R136, R142, R144, R157, R158, R181, R183). -/
def Obligations.ClosingUpdateEndsRecovery : Prop :=
  ∀ (s : State) (tag : XferTag) (e : OutEntry) (data : List Byte) (k : Close),
    s.OpenInMode → s.entry tag = some e → e.ref = .anchorFlush → e.kind = .flush → s.ring.update = .anchorFlush →
    s.ring.closing = true → s.recovery.phase = .close k →
    let changes : List EventBody := if s.pfwarn
      then [.modeChange .draining s.mode, .modeChange .drained .draining, .drainDone k.endSequence]
      else [.modeChange .online s.mode]
    exec (.anchorFlushResponse tag (.ack data)) s = .next
      { s.pushAll (.recoveryDone k.endSequence k.replayed :: changes) with
        mode := if s.pfwarn then .drained else .online
        downstream := { s.downstream with outstanding := s.downstream.outstanding.filter fun d => d.tag ≠ tag }
        upOut := s.upOut ++ s.inDoubt.map fun d =>
          ⟨d.requester, if d.sequence.toNat < k.endSequence.toNat then .ok [] else .failed .reset⟩
        inDoubt := []
        ring := { s.ring with
          head := k.endOffset, retiredOffset := k.endOffset, durableOffset := k.endOffset
          nextSequence := k.endSequence, retiredSequence := k.endSequence, durableSequence := k.endSequence
          live := 0, unanchored := 0, retirements := 0, pendingPad := none
          generation := s.ring.generation + 1, nextCopy := s.ring.nextCopy.other
          update := .idle, snapshot := none, closing := false, toIssue := [], writesAcked := 0 }
        ingress := { s.ingress with wait := s.ingress.wait.filter fun w => !w.onMode }
        writer := ⟨true, [], [], none⟩
        release := ⟨true, [], [], none⟩
        recovery := ⟨.idle, []⟩ }

/-- A failed request of a recovery, or two anchor copies that are not valid without FORMAT, is a recovery fault: requests are
withdrawn, the closing update abandoned, every in-doubt COMMIT answered FAILED/RECOVERY, RECOVERY_FAULT and MODE_CHANGE pushed
and the mode FAULTED; afterwards every answer to the engine is absorbed (R144, R159, R177; the sequence and count of an event in
ANCHORS and the sequence in CLOSE are the model's choice, assumption 12). -/
def Obligations.RecoveryFaultEndsInFaulted : Prop :=
  ∀ (s : State) (tag : XferTag) (e : OutEntry), s.entry tag = some e →
    let taken := { s with downstream := { s.downstream with
      outstanding := s.downstream.outstanding.filter fun d => d.tag ≠ tag } }
    let faulted := fun (d : RecoveryDetail) (a : Option Addr) =>
      { taken.pushAll [.recoveryFault s.recovery.phase.expected? d a s.recovery.phase.replayed?,
          .modeChange .faulted s.mode] with
        mode := .faulted
        upOut := s.upOut ++ s.inDoubt.map fun d => ⟨d.requester, .failed .recovery⟩
        inDoubt := []
        ring := { s.ring with update := .idle, snapshot := none, closing := false, toIssue := [], writesAcked := 0 }
        ingress := { s.ingress with wait := s.ingress.wait.filter fun w => !w.onMode }
        recovery := ⟨.idle, []⟩ }
    let failed := exec (e.ref.responseCommand tag .error) s
    (∀ copy format x y, e.ref = .anchorRead copy → s.recovery.phase = .anchors format x y →
      failed = .next (faulted .anchorRead e.address)) ∧
    (∀ k, (e.ref = .scanRead ∨ e.ref = .headerRead ∨ ∃ o, e.ref = .bodyRead o) → s.recovery.phase = .scan k →
      failed = .next (faulted .scanRead e.address)) ∧
    (∀ k, (e.ref = .replayEntry ∨ e.ref = .replayMarker) → s.recovery.phase = .scan k →
      failed = .next (faulted .replay e.address)) ∧
    (∀ k, e.ref = .zeroWrite → s.recovery.phase = .close k → failed = .next (faulted .replay e.address)) ∧
    (s.ring.closing = true →
      (e.ref = .homeFlush ∧ s.ring.update = .homeFlush ∨ e.ref = .anchorFlush ∧ s.ring.update = .anchorFlush →
        failed = .next (faulted .close none)) ∧
      (e.ref = .anchorWrite ∧ s.ring.update = .anchorWrite → failed = .next (faulted .close e.address))) ∧
    (∀ p q data copy, e.ref = .anchorRead copy → e.kind = .read data.length →
      (copy = .a ∧ p = data ∧ (∃ x, s.recovery.phase = .anchors false x (some q)) ∨
        copy = .b ∧ q = data ∧ ∃ y, s.recovery.phase = .anchors false (some p) y) →
      anchorValid p s.settings.ringSizeLog2 s.settings.journalBase = false →
      anchorValid q s.settings.ringSizeLog2 s.settings.journalBase = false →
      exec (.anchorReadResponse tag (.ack data)) s = .next (faulted .noAnchor (some s.settings.journalBase))) ∧
    (s.recovery.phase = .idle → e.ref.port = .recovery → ∀ response, e.kind.fits response = true →
      exec (e.ref.responseCommand tag response) s = .next taken)

/-- PFWARN asserted in ONLINE makes the mode DRAINING, fails every OPEN context with POWER, starts an anchor update or sets the
again flag, and completes the drain at once where nothing is left; deasserted in DRAINING or DRAINED it makes the mode ONLINE,
after which the ring manager checks its start conditions; in every other mode a change is latched and changes no mode (R37, R52,
R55, R60, R71, R112, R139, R142, R144, R180, R181, R183, R184). That the reason a walk at the head recorded first stands against
POWER is the model's reading of R55 (assumption 8). -/
def Obligations.PfwarnStartsAndEndsTheDrain : Prop :=
  ∀ s : State,
    (s.pfwarn = true → exec .pfwarnAsserted s = .next s) ∧
    (s.pfwarn = false → s.mode ≠ .online → exec .pfwarnAsserted s = .next { s with pfwarn := true }) ∧
    (s.pfwarn = false → s.mode = .online →
      let done := s.writer.commitQueue = [] ∧ s.writer.openBatch = [] ∧ s.writer.flight = none ∧ s.release.queue = [] ∧
        s.release.releasing = [] ∧ s.ring.unanchored = 0
      let entry := EventBody.modeChange .draining .online :: s.openFailures .power
      ∃ t, exec .pfwarnAsserted s = .next t ∧
        (∀ c, t.ctx c = (s.ctx c).failedBy .power s.timebase s.settings.orphanTimeout) ∧
        (s.ring.update ≠ .idle → t.ring = { s.ring with again := true }) ∧
        (s.ring.update = .idle → s.ring.unanchored ≠ 0 → t.ring =
          { s.ring with again := false, update := .homeFlush, toIssue := [(.flush, .homeFlush)] }) ∧
        (s.ring.update = .idle → s.ring.unanchored = 0 → t.ring = s.ring) ∧
        (done → t.mode = .drained ∧ t.events =
          (s.pushAll (entry ++ [.modeChange .drained .draining, .drainDone s.ring.durableSequence])).events) ∧
        (¬done → t.mode = .draining ∧ t.events = (s.pushAll entry).events) ∧
        t = { s with
          pfwarn := true, mode := t.mode, contexts := t.contexts, events := t.events, ring := t.ring
          hold := s.hold.filter fun h => !(s.ctx h.owner).isOpen
          ingress := s.ingress.afterFailure .power (s.hold.any fun h => (s.ctx h.owner).isOpen)
            (fun x => (s.ctx x).isOpen) true }) ∧
    (s.pfwarn = false → exec .pfwarnDeasserted s = .next s) ∧
    (s.pfwarn = true → (s.mode = .draining ∨ s.mode = .drained) → exec .pfwarnDeasserted s = .next
      { s.push (.modeChange .online s.mode) with
        pfwarn := false, mode := .online
        ring := s.ring.startChecked .online s.settings.anchorInterval
        ingress := { s.ingress with wait := s.ingress.wait.filter fun w => !w.onMode } }) ∧
    (s.pfwarn = true → s.mode ≠ .draining → s.mode ≠ .drained →
      exec .pfwarnDeasserted s = .next { s with pfwarn := false })

/-- The drain is complete in DRAINING with no commit, record, release or unanchored byte left: the mode becomes DRAINED with
MODE_CHANGE and then DRAIN_DONE; while any is left nothing changes (R183). -/
def Obligations.DrainCompletesWhenNothingIsLeft : Prop :=
  ∀ s : State,
    let done := s.mode = .draining ∧ s.writer.commitQueue = [] ∧ s.writer.openBatch = [] ∧ s.writer.flight = none ∧
      s.release.queue = [] ∧ s.release.releasing = [] ∧ s.ring.unanchored = 0
    (¬done → exec .drainComplete s = .next s) ∧
    (done → exec .drainComplete s = .next
      { s.pushAll [.modeChange .drained .draining, .drainDone s.ring.durableSequence] with mode := .drained })

/-! ## The management port (chapter 11) -/

/-- A READ of EVENT_POP moves the oldest event into the event window, or clears the window, and returns word 0; a READ of a _LO
word returns the low word and captures the high word (R189, R196, R197). -/
def Obligations.ReadFramesWithAnEffect : Prop :=
  (∀ s : State, s.events.entries = [] →
    exec .eventPop s = .next { s with events := { s.events with window := none }, reply := some ⟨some 0, some .ok⟩ }) ∧
  (∀ (s : State) (e : Event) (rest : List Event), s.events.entries = e :: rest → ∃ word : Word32,
    exec .eventPop s =
      .next { s with events := { s.events with entries := rest, window := some e }, reply := some ⟨some word, some .ok⟩ } ∧
    e.wordIs 0 word.toNat) ∧
  ∀ s : State,
    exec (.sequenceLoRead .nextSequence) s = .next { s with
      settings := { s.settings with nextSequenceShadow := BitVec.ofNat 32 (s.ring.nextSequence.toNat / 2 ^ 32) }
      reply := some ⟨some (BitVec.ofNat 32 s.ring.nextSequence.toNat), some .ok⟩ } ∧
    exec (.sequenceLoRead .durableTailSequence) s = .next { s with
      settings := { s.settings with durableTailShadow := BitVec.ofNat 32 (s.ring.durableSequence.toNat / 2 ^ 32) }
      reply := some ⟨some (BitVec.ofNat 32 s.ring.durableSequence.toNat), some .ok⟩ }

/-- A whole READ frame returns the register its address names, with OK: MODE, OCCUPANCY, the ring registers, the event words, the
configuration and window registers as their rows give them, EVENT_POP and the _LO words with their effect, and zero with BADADDR
for an address that names none. A whole WRITE frame is the write of its data at its address. A frame cut short before it is taken
has no effect, one cut short after it keeps its effect and shifts out no status, and another command byte touches nothing. MISO
carries the value, most significant byte first, the status code and then zero (R189, R192, R193, R194, R195, R196, R197; that
frames come as the operand of BAD_COMMAND_FRAME is the model's choice, assumption 18). -/
def Obligations.FramesReadAndWriteRegisters : Prop :=
  (∀ (s : State) (a : BitVec 16) (data : Word32) (tail : List Byte),
    let read := exec (.badCommandFrame (frameOf 0x0B a data ++ tail)) s
    let shows := fun (v : Word32) (status : Status) => Host.Outcome.next { s with reply := some ⟨some v, some status⟩ }
    (a = 0x000C#16 → read = exec .eventPop s) ∧
    (a = 0x0050#16 → read = exec (.sequenceLoRead .nextSequence) s) ∧
    (a = 0x0058#16 → read = exec (.sequenceLoRead .durableTailSequence) s) ∧
    (∀ n, s.reads a.toNat = some n → read = shows (BitVec.ofNat 32 n) .ok) ∧
    (∀ i n, a.toNat = 0x0104 + 4 * i → (s.window s.settings.windowSelect).reads i = some n →
      read = shows (BitVec.ofNat 32 n) .ok) ∧
    (∀ i, i < 7 → a.toNat = 0x0010 + 4 * i →
      (s.events.window = none → read = shows 0 .ok) ∧
      ∀ e, s.events.window = some e → ∃ word : Word32, read = shows word .ok ∧ e.wordIs i word.toNat) ∧
    (s.reads a.toNat = none → a ≠ 0x000C#16 → a ≠ 0x0050#16 → a ≠ 0x0058#16 → (∀ i, i < 7 → a.toNat ≠ 0x0010 + 4 * i) →
      (∀ i, i < 13 → a.toNat ≠ 0x0104 + 4 * i) → read = shows 0 .badAddr) ∧
    exec (.badCommandFrame (frameOf 0x02 a data ++ tail)) s = exec (.registerWrite a data) s ∧
    ∀ command : Byte, command ≠ 0x0B#8 → command ≠ 0x02#8 →
      exec (.badCommandFrame (frameOf command a data ++ tail)) s = shows 0 .badAddr) ∧
  (∀ (s : State) (command : Byte) (a : BitVec 16) (data : Word32) (n : Nat),
    let cut := exec (.badCommandFrame ((frameOf command a data).take n)) s
    let taken := if command = 0x02#8 then 7 else 3
    (n < taken → cut = .next { s with reply := some ⟨none, none⟩ }) ∧
    ∀ t, taken ≤ n → n < 8 → exec (.badCommandFrame (frameOf command a data)) s = .next t →
      cut = .next { t with reply := t.reply.map fun x => { x with status := none } }) ∧
  ∀ (v : Word32) (status : Status) (code : Byte) (n : Nat),
    (status = .ok ∧ code = 0x00#8 ∨ status = .busy ∧ code = 0x01#8 ∨ status = .badAddr ∧ code = 0x02#8) →
    Reply.shifted ⟨some v, some status⟩ (8 + n) = List.replicate 3 none ++ [some (v.extractLsb' 24 8),
      some (v.extractLsb' 16 8), some (v.extractLsb' 8 8), some (v.extractLsb' 0 8), some code] ++ List.replicate n (some 0) ∧
    Reply.shifted ⟨none, some status⟩ (8 + n) = List.replicate 7 none ++ [some code] ++ List.replicate n (some 0)

/-- A WRITE frame to a configuration register takes its value where the mode and the range allow it; geometry, epoch and divider
are BUSY outside INIT; a change of ANCHOR_INTERVAL has the ring manager check its start conditions; a window field address writes
that field; any other address but CONTROL is refused with BADADDR (R104, R112, R193, R194, R196; the again flag set by a lowered
ANCHOR_INTERVAL is the model's reading, assumption 11). -/
def Obligations.RegisterWriteCheckedThenApplied : Prop :=
  ∀ (s : State) (a : BitVec 16) (v : Word32),
    let frame := exec (.registerWrite a v) s
    let refused := fun (status : Status) => { s with reply := some ⟨none, some status⟩ }
    let geometry := a.toNat ∈ [0x80, 0x84, 0x88, 0x8C, 0x90]
    let free := a.toNat ∈ [0x94, 0x98, 0x9C, 0xA0, 0xA4, 0x100]
    let fields : List WindowRegister := [.mode, .baseLo, .baseHi, .maskLo, .maskHi, .markerPatternLo, .markerPatternHi,
      .markerMaskLo, .markerMaskHi, .signature, .lengthLimit, .idleTimeout, .policy]
    (geometry → s.mode ≠ .init → frame = .next (refused .busy)) ∧
    (geometry ∧ s.mode = .init ∨ free → s.settings.written v a.toNat = none → frame = .next (refused .badAddr)) ∧
    (∀ g, geometry ∧ s.mode = .init ∨ free → s.settings.written v a.toNat = some g → frame = .next { s with
      settings := g
      ring :=
        let h := { s.ring with again := s.ring.again || (s.ring.update ≠ .idle &&
          s.ring.retirements < s.settings.anchorInterval && g.anchorInterval ≤ s.ring.retirements) }
        if g.anchorInterval = s.settings.anchorInterval then h else h.startChecked s.mode g.anchorInterval
      reply := some ⟨none, some .ok⟩ }) ∧
    (∀ i r, fields[i]? = some r → a.toNat = 0x104 + 4 * i → frame = exec (.windowFieldWrite r v) s) ∧
    (¬geometry → ¬free → a.toNat ≠ 4 → (∀ i, i < 13 → a.toNat ≠ 0x104 + 4 * i) → frame = .next (refused .badAddr))

/-! ## The whole machine -/

/-- The mode changes only by the transitions of R138's table, each by the command that brings it about (the end of the drain by
its own row or by the acknowledged anchor FLUSH that leaves nothing), and every change but the one at cold reset pushes its
MODE_CHANGE, with the new mode and the mode left, and no other; an entry to DRAINING that finds the drain complete goes on to
DRAINED in the same step with a second one (R138, R139, R142, R177, R181, R183). -/
def Obligations.ModeChangesOnlyByItsTransitions : Prop :=
  ∀ (c : Instr) (s t : State), s.EnginesInMode → s.DrainedIsEmpty → s.PipelineLaw → s.WritesOwed →
    exec c s = .next t → t.mode ≠ s.mode →
    let control := (controlWord c).or (frameControl c)
    let endsRecovery := s.mode = .recovering ∧ ∃ tag data, c = .anchorFlushResponse tag (.ack data)
    (c = .coldReset ∨ ∃ bodies : List EventBody,
      t.events = (State.pushAll { s with events := { s.events with
        overflow := s.events.overflow && !control.any fun v => v.getLsbD 3 } } bodies).events ∧
      bodies.filterMap EventBody.modeChange? =
        if t.mode = .drained ∧ s.mode ≠ .draining then [(.draining, s.mode), (.drained, .draining)] else [(t.mode, s.mode)]) ∧
    match t.mode with
    | .init => c = .coldReset
    | .recovering => ∃ v, control = some v ∧
        (v.getLsbD 0 = true ∧ s.mode = .init ∨
          v.getLsbD 2 = true ∧ (s.mode = .online ∨ s.mode = .draining ∨ s.mode = .drained ∨ s.mode = .faulted))
    | .online => c = .pfwarnDeasserted ∧ (s.mode = .draining ∨ s.mode = .drained) ∨ endsRecovery ∧ s.pfwarn = false
    | .draining => c = .pfwarnAsserted ∧ s.mode = .online
    | .drained => (c = .drainComplete ∨ ∃ tag data, c = .anchorFlushResponse tag (.ack data)) ∧ s.mode = .draining ∨
        c = .pfwarnAsserted ∧ s.mode = .online ∨ endsRecovery ∧ s.pfwarn = true
    | .faulted => (s.mode = .recovering ∨ s.mode = .online ∨ s.mode = .draining) ∧
        ((responseOf c).isSome = true ∨ ∃ tag, c = .responseTimerExpiry tag)

/-- Every step keeps the depths of the queues and tables, distinct transfer tags and every register in its range (R2, R66, R104,
R121, R163, R172, R187, R194, R196). -/
def Obligations.TablesStayWithinBounds : Prop :=
  ∀ s t : State, s.WithinDepth → s.TagsDistinct → s.RegistersInRange → step s = .next t →
    t.WithinDepth ∧ t.TagsDistinct ∧ t.RegistersInRange

/-- Every step keeps the laws that tie the engines, the contexts and the binding map to the mode: an anchor update is in flight
only where it has bytes to anchor or closes a recovery, and in DRAINED nothing is left to seal, release or anchor (R18, R37, R38,
R39, R82, R111, R112, R118, R121, R148, R149, R182, R183). -/
def Obligations.EnginesAndBindingsFollowTheMode : Prop :=
  ∀ s t : State, s.EnginesInMode → s.OpenInMode → s.BindingsMatch → s.UpdateHasBytes → s.DrainedIsEmpty →
    step s = .next t →
    t.EnginesInMode ∧ t.OpenInMode ∧ t.BindingsMatch ∧ t.UpdateHasBytes ∧ t.DrainedIsEmpty

/-- Every step keeps the hold buffer's law: no slot number is held twice, every slot belongs to an OPEN or committed context and
holds a byte, and only the youngest slot of a line can belong to an OPEN context (R43, R44). -/
def Obligations.HoldBufferLawIsKept : Prop :=
  ∀ s t : State, s.HoldLaw → step s = .next t → t.HoldLaw

/-- Every step keeps the commit pipeline's law: each committed context stands in exactly the queue of its state, and the sealed
records carry consecutive sequences from the retired tail (R17, R36, R81, R94, R123, R134). -/
def Obligations.CommitPipelineLawIsKept : Prop :=
  ∀ s t : State, s.EnginesInMode → s.OpenInMode → s.PipelineLaw → step s = .next t → t.PipelineLaw

/-- Every step keeps the ring's law: unanchored bytes, a pending pad and the sealed records lie within the live bytes, and the
live bytes within the ring (R106, R107, R108, R110, R115). -/
def Obligations.RingNeverOverfills : Prop :=
  ∀ s t : State, s.Lawful → step s = .next t → t.RingLaw

/-- Every step keeps every answer owed: a pending answer counts exactly its requests handed over or outstanding, and a tracking
entry is ACTIVE exactly while its READ is on its way (R66, R74, R169, R172). -/
def Obligations.NoAnswerIsLost : Prop :=
  ∀ s t : State, s.TagsDistinct → s.RefsOfOwners → s.AnswersOwed → step s = .next t → t.RefsOfOwners ∧ t.AnswersOwed

/-- Every step keeps the writer's count: while it is ACTIVE the unanswered writes of each record of the open batch are exactly the
outstanding ones, and a record flush is outstanding exactly while the flush in flight is granted and unanswered (R92, R93, R98,
R100, R147, R172). -/
def Obligations.RecordWritesStayCounted : Prop :=
  ∀ s t : State, s.EnginesInMode → s.PipelineLaw → s.TagsDistinct → s.RefsOfOwners → s.WritesOwed → step s = .next t →
    t.WritesOwed
end

