-- ==== Sys2Proof/Laws/State.lean ====
section
/-! SUPPORT. One lemma per field for each plain update of the state. -/

namespace Sys2Proof.Machine

/-! ### `State.setCtx` -/

@[simp] theorem State.setCtx_mode (s : State) (c : ContextIx) (x : Context) : (s.setCtx c x).mode = s.mode := rfl
@[simp] theorem State.setCtx_pfwarn (s : State) (c : ContextIx) (x : Context) : (s.setCtx c x).pfwarn = s.pfwarn := rfl
@[simp] theorem State.setCtx_timebase (s : State) (c : ContextIx) (x : Context) :
    (s.setCtx c x).timebase = s.timebase := rfl
@[simp] theorem State.setCtx_refclkLeft (s : State) (c : ContextIx) (x : Context) :
    (s.setCtx c x).refclkLeft = s.refclkLeft := rfl
@[simp] theorem State.setCtx_settings (s : State) (c : ContextIx) (x : Context) :
    (s.setCtx c x).settings = s.settings := rfl
@[simp] theorem State.setCtx_windows (s : State) (c : ContextIx) (x : Context) :
    (s.setCtx c x).windows = s.windows := rfl
@[simp] theorem State.setCtx_contexts (s : State) (c : ContextIx) (x : Context) :
    (s.setCtx c x).contexts = s.contexts.set c x := rfl
@[simp] theorem State.setCtx_bindings (s : State) (c : ContextIx) (x : Context) :
    (s.setCtx c x).bindings = s.bindings := rfl
@[simp] theorem State.setCtx_inDoubt (s : State) (c : ContextIx) (x : Context) :
    (s.setCtx c x).inDoubt = s.inDoubt := rfl
@[simp] theorem State.setCtx_hold (s : State) (c : ContextIx) (x : Context) : (s.setCtx c x).hold = s.hold := rfl
@[simp] theorem State.setCtx_tracking (s : State) (c : ContextIx) (x : Context) :
    (s.setCtx c x).tracking = s.tracking := rfl
@[simp] theorem State.setCtx_ingress (s : State) (c : ContextIx) (x : Context) :
    (s.setCtx c x).ingress = s.ingress := rfl
@[simp] theorem State.setCtx_writer (s : State) (c : ContextIx) (x : Context) : (s.setCtx c x).writer = s.writer := rfl
@[simp] theorem State.setCtx_ring (s : State) (c : ContextIx) (x : Context) : (s.setCtx c x).ring = s.ring := rfl
@[simp] theorem State.setCtx_release (s : State) (c : ContextIx) (x : Context) :
    (s.setCtx c x).release = s.release := rfl
@[simp] theorem State.setCtx_recovery (s : State) (c : ContextIx) (x : Context) :
    (s.setCtx c x).recovery = s.recovery := rfl
@[simp] theorem State.setCtx_downstream (s : State) (c : ContextIx) (x : Context) :
    (s.setCtx c x).downstream = s.downstream := rfl
@[simp] theorem State.setCtx_events (s : State) (c : ContextIx) (x : Context) : (s.setCtx c x).events = s.events := rfl
@[simp] theorem State.setCtx_upOut (s : State) (c : ContextIx) (x : Context) : (s.setCtx c x).upOut = s.upOut := rfl
@[simp] theorem State.setCtx_dnOut (s : State) (c : ContextIx) (x : Context) : (s.setCtx c x).dnOut = s.dnOut := rfl
@[simp] theorem State.setCtx_reply (s : State) (c : ContextIx) (x : Context) : (s.setCtx c x).reply = s.reply := rfl
@[simp] theorem State.setCtx_pending (s : State) (c : ContextIx) (x : Context) :
    (s.setCtx c x).pending = s.pending := rfl

/-! ### `State.setTrack` -/

@[simp] theorem State.setTrack_mode (s : State) (k : EntryNo) (x : Option TrackEntry) :
    (s.setTrack k x).mode = s.mode := rfl
@[simp] theorem State.setTrack_pfwarn (s : State) (k : EntryNo) (x : Option TrackEntry) :
    (s.setTrack k x).pfwarn = s.pfwarn := rfl
@[simp] theorem State.setTrack_timebase (s : State) (k : EntryNo) (x : Option TrackEntry) :
    (s.setTrack k x).timebase = s.timebase := rfl
@[simp] theorem State.setTrack_refclkLeft (s : State) (k : EntryNo) (x : Option TrackEntry) :
    (s.setTrack k x).refclkLeft = s.refclkLeft := rfl
@[simp] theorem State.setTrack_settings (s : State) (k : EntryNo) (x : Option TrackEntry) :
    (s.setTrack k x).settings = s.settings := rfl
@[simp] theorem State.setTrack_windows (s : State) (k : EntryNo) (x : Option TrackEntry) :
    (s.setTrack k x).windows = s.windows := rfl
@[simp] theorem State.setTrack_contexts (s : State) (k : EntryNo) (x : Option TrackEntry) :
    (s.setTrack k x).contexts = s.contexts := rfl
@[simp] theorem State.setTrack_bindings (s : State) (k : EntryNo) (x : Option TrackEntry) :
    (s.setTrack k x).bindings = s.bindings := rfl
@[simp] theorem State.setTrack_inDoubt (s : State) (k : EntryNo) (x : Option TrackEntry) :
    (s.setTrack k x).inDoubt = s.inDoubt := rfl
@[simp] theorem State.setTrack_hold (s : State) (k : EntryNo) (x : Option TrackEntry) :
    (s.setTrack k x).hold = s.hold := rfl
@[simp] theorem State.setTrack_tracking (s : State) (k : EntryNo) (x : Option TrackEntry) :
    (s.setTrack k x).tracking = s.tracking.set k x := rfl
@[simp] theorem State.setTrack_ingress (s : State) (k : EntryNo) (x : Option TrackEntry) :
    (s.setTrack k x).ingress = s.ingress := rfl
@[simp] theorem State.setTrack_writer (s : State) (k : EntryNo) (x : Option TrackEntry) :
    (s.setTrack k x).writer = s.writer := rfl
@[simp] theorem State.setTrack_ring (s : State) (k : EntryNo) (x : Option TrackEntry) :
    (s.setTrack k x).ring = s.ring := rfl
@[simp] theorem State.setTrack_release (s : State) (k : EntryNo) (x : Option TrackEntry) :
    (s.setTrack k x).release = s.release := rfl
@[simp] theorem State.setTrack_recovery (s : State) (k : EntryNo) (x : Option TrackEntry) :
    (s.setTrack k x).recovery = s.recovery := rfl
@[simp] theorem State.setTrack_downstream (s : State) (k : EntryNo) (x : Option TrackEntry) :
    (s.setTrack k x).downstream = s.downstream := rfl
@[simp] theorem State.setTrack_events (s : State) (k : EntryNo) (x : Option TrackEntry) :
    (s.setTrack k x).events = s.events := rfl
@[simp] theorem State.setTrack_upOut (s : State) (k : EntryNo) (x : Option TrackEntry) :
    (s.setTrack k x).upOut = s.upOut := rfl
@[simp] theorem State.setTrack_dnOut (s : State) (k : EntryNo) (x : Option TrackEntry) :
    (s.setTrack k x).dnOut = s.dnOut := rfl
@[simp] theorem State.setTrack_reply (s : State) (k : EntryNo) (x : Option TrackEntry) :
    (s.setTrack k x).reply = s.reply := rfl
@[simp] theorem State.setTrack_pending (s : State) (k : EntryNo) (x : Option TrackEntry) :
    (s.setTrack k x).pending = s.pending := rfl

/-! ### `State.bind` -/

@[simp] theorem State.bind_mode (s : State) (i : Initiator) (w : WindowIx) (c : ContextIx) :
    (s.bind i w c).mode = s.mode := rfl
@[simp] theorem State.bind_pfwarn (s : State) (i : Initiator) (w : WindowIx) (c : ContextIx) :
    (s.bind i w c).pfwarn = s.pfwarn := rfl
@[simp] theorem State.bind_timebase (s : State) (i : Initiator) (w : WindowIx) (c : ContextIx) :
    (s.bind i w c).timebase = s.timebase := rfl
@[simp] theorem State.bind_refclkLeft (s : State) (i : Initiator) (w : WindowIx) (c : ContextIx) :
    (s.bind i w c).refclkLeft = s.refclkLeft := rfl
@[simp] theorem State.bind_settings (s : State) (i : Initiator) (w : WindowIx) (c : ContextIx) :
    (s.bind i w c).settings = s.settings := rfl
@[simp] theorem State.bind_windows (s : State) (i : Initiator) (w : WindowIx) (c : ContextIx) :
    (s.bind i w c).windows = s.windows := rfl
@[simp] theorem State.bind_contexts (s : State) (i : Initiator) (w : WindowIx) (c : ContextIx) :
    (s.bind i w c).contexts = s.contexts := rfl
@[simp] theorem State.bind_bindings (s : State) (i : Initiator) (w : WindowIx) (c : ContextIx) :
    (s.bind i w c).bindings = s.bindings ++ [⟨i, w, c⟩] := rfl
@[simp] theorem State.bind_inDoubt (s : State) (i : Initiator) (w : WindowIx) (c : ContextIx) :
    (s.bind i w c).inDoubt = s.inDoubt := rfl
@[simp] theorem State.bind_hold (s : State) (i : Initiator) (w : WindowIx) (c : ContextIx) :
    (s.bind i w c).hold = s.hold := rfl
@[simp] theorem State.bind_tracking (s : State) (i : Initiator) (w : WindowIx) (c : ContextIx) :
    (s.bind i w c).tracking = s.tracking := rfl
@[simp] theorem State.bind_ingress (s : State) (i : Initiator) (w : WindowIx) (c : ContextIx) :
    (s.bind i w c).ingress = s.ingress := rfl
@[simp] theorem State.bind_writer (s : State) (i : Initiator) (w : WindowIx) (c : ContextIx) :
    (s.bind i w c).writer = s.writer := rfl
@[simp] theorem State.bind_ring (s : State) (i : Initiator) (w : WindowIx) (c : ContextIx) :
    (s.bind i w c).ring = s.ring := rfl
@[simp] theorem State.bind_release (s : State) (i : Initiator) (w : WindowIx) (c : ContextIx) :
    (s.bind i w c).release = s.release := rfl
@[simp] theorem State.bind_recovery (s : State) (i : Initiator) (w : WindowIx) (c : ContextIx) :
    (s.bind i w c).recovery = s.recovery := rfl
@[simp] theorem State.bind_downstream (s : State) (i : Initiator) (w : WindowIx) (c : ContextIx) :
    (s.bind i w c).downstream = s.downstream := rfl
@[simp] theorem State.bind_events (s : State) (i : Initiator) (w : WindowIx) (c : ContextIx) :
    (s.bind i w c).events = s.events := rfl
@[simp] theorem State.bind_upOut (s : State) (i : Initiator) (w : WindowIx) (c : ContextIx) :
    (s.bind i w c).upOut = s.upOut := rfl
@[simp] theorem State.bind_dnOut (s : State) (i : Initiator) (w : WindowIx) (c : ContextIx) :
    (s.bind i w c).dnOut = s.dnOut := rfl
@[simp] theorem State.bind_reply (s : State) (i : Initiator) (w : WindowIx) (c : ContextIx) :
    (s.bind i w c).reply = s.reply := rfl
@[simp] theorem State.bind_pending (s : State) (i : Initiator) (w : WindowIx) (c : ContextIx) :
    (s.bind i w c).pending = s.pending := rfl

/-! ### `State.unbind` -/

@[simp] theorem State.unbind_mode (s : State) (i : Initiator) (w : WindowIx) : (s.unbind i w).mode = s.mode := rfl
@[simp] theorem State.unbind_pfwarn (s : State) (i : Initiator) (w : WindowIx) : (s.unbind i w).pfwarn = s.pfwarn := rfl
@[simp] theorem State.unbind_timebase (s : State) (i : Initiator) (w : WindowIx) :
    (s.unbind i w).timebase = s.timebase := rfl
@[simp] theorem State.unbind_refclkLeft (s : State) (i : Initiator) (w : WindowIx) :
    (s.unbind i w).refclkLeft = s.refclkLeft := rfl
@[simp] theorem State.unbind_settings (s : State) (i : Initiator) (w : WindowIx) :
    (s.unbind i w).settings = s.settings := rfl
@[simp] theorem State.unbind_windows (s : State) (i : Initiator) (w : WindowIx) :
    (s.unbind i w).windows = s.windows := rfl
@[simp] theorem State.unbind_contexts (s : State) (i : Initiator) (w : WindowIx) :
    (s.unbind i w).contexts = s.contexts := rfl
@[simp] theorem State.unbind_bindings (s : State) (i : Initiator) (w : WindowIx) :
    (s.unbind i w).bindings = s.bindings.filter fun b => !(b.initiator = i && b.window = w) := rfl
@[simp] theorem State.unbind_inDoubt (s : State) (i : Initiator) (w : WindowIx) :
    (s.unbind i w).inDoubt = s.inDoubt := rfl
@[simp] theorem State.unbind_hold (s : State) (i : Initiator) (w : WindowIx) : (s.unbind i w).hold = s.hold := rfl
@[simp] theorem State.unbind_tracking (s : State) (i : Initiator) (w : WindowIx) :
    (s.unbind i w).tracking = s.tracking := rfl
@[simp] theorem State.unbind_ingress (s : State) (i : Initiator) (w : WindowIx) :
    (s.unbind i w).ingress = s.ingress := rfl
@[simp] theorem State.unbind_writer (s : State) (i : Initiator) (w : WindowIx) : (s.unbind i w).writer = s.writer := rfl
@[simp] theorem State.unbind_ring (s : State) (i : Initiator) (w : WindowIx) : (s.unbind i w).ring = s.ring := rfl
@[simp] theorem State.unbind_release (s : State) (i : Initiator) (w : WindowIx) :
    (s.unbind i w).release = s.release := rfl
@[simp] theorem State.unbind_recovery (s : State) (i : Initiator) (w : WindowIx) :
    (s.unbind i w).recovery = s.recovery := rfl
@[simp] theorem State.unbind_downstream (s : State) (i : Initiator) (w : WindowIx) :
    (s.unbind i w).downstream = s.downstream := rfl
@[simp] theorem State.unbind_events (s : State) (i : Initiator) (w : WindowIx) : (s.unbind i w).events = s.events := rfl
@[simp] theorem State.unbind_upOut (s : State) (i : Initiator) (w : WindowIx) : (s.unbind i w).upOut = s.upOut := rfl
@[simp] theorem State.unbind_dnOut (s : State) (i : Initiator) (w : WindowIx) : (s.unbind i w).dnOut = s.dnOut := rfl
@[simp] theorem State.unbind_reply (s : State) (i : Initiator) (w : WindowIx) : (s.unbind i w).reply = s.reply := rfl
@[simp] theorem State.unbind_pending (s : State) (i : Initiator) (w : WindowIx) :
    (s.unbind i w).pending = s.pending := rfl

/-! ### `State.answer` -/

@[simp] theorem State.answer_mode (s : State) (r : Requester) (code : AnswerCode) :
    (s.answer r code).mode = s.mode := rfl
@[simp] theorem State.answer_pfwarn (s : State) (r : Requester) (code : AnswerCode) :
    (s.answer r code).pfwarn = s.pfwarn := rfl
@[simp] theorem State.answer_timebase (s : State) (r : Requester) (code : AnswerCode) :
    (s.answer r code).timebase = s.timebase := rfl
@[simp] theorem State.answer_refclkLeft (s : State) (r : Requester) (code : AnswerCode) :
    (s.answer r code).refclkLeft = s.refclkLeft := rfl
@[simp] theorem State.answer_settings (s : State) (r : Requester) (code : AnswerCode) :
    (s.answer r code).settings = s.settings := rfl
@[simp] theorem State.answer_windows (s : State) (r : Requester) (code : AnswerCode) :
    (s.answer r code).windows = s.windows := rfl
@[simp] theorem State.answer_contexts (s : State) (r : Requester) (code : AnswerCode) :
    (s.answer r code).contexts = s.contexts := rfl
@[simp] theorem State.answer_bindings (s : State) (r : Requester) (code : AnswerCode) :
    (s.answer r code).bindings = s.bindings := rfl
@[simp] theorem State.answer_inDoubt (s : State) (r : Requester) (code : AnswerCode) :
    (s.answer r code).inDoubt = s.inDoubt := rfl
@[simp] theorem State.answer_hold (s : State) (r : Requester) (code : AnswerCode) :
    (s.answer r code).hold = s.hold := rfl
@[simp] theorem State.answer_tracking (s : State) (r : Requester) (code : AnswerCode) :
    (s.answer r code).tracking = s.tracking := rfl
@[simp] theorem State.answer_ingress (s : State) (r : Requester) (code : AnswerCode) :
    (s.answer r code).ingress = s.ingress := rfl
@[simp] theorem State.answer_writer (s : State) (r : Requester) (code : AnswerCode) :
    (s.answer r code).writer = s.writer := rfl
@[simp] theorem State.answer_ring (s : State) (r : Requester) (code : AnswerCode) :
    (s.answer r code).ring = s.ring := rfl
@[simp] theorem State.answer_release (s : State) (r : Requester) (code : AnswerCode) :
    (s.answer r code).release = s.release := rfl
@[simp] theorem State.answer_recovery (s : State) (r : Requester) (code : AnswerCode) :
    (s.answer r code).recovery = s.recovery := rfl
@[simp] theorem State.answer_downstream (s : State) (r : Requester) (code : AnswerCode) :
    (s.answer r code).downstream = s.downstream := rfl
@[simp] theorem State.answer_events (s : State) (r : Requester) (code : AnswerCode) :
    (s.answer r code).events = s.events := rfl
@[simp] theorem State.answer_upOut (s : State) (r : Requester) (code : AnswerCode) :
    (s.answer r code).upOut = s.upOut ++ [⟨r, code⟩] := rfl
@[simp] theorem State.answer_dnOut (s : State) (r : Requester) (code : AnswerCode) :
    (s.answer r code).dnOut = s.dnOut := rfl
@[simp] theorem State.answer_reply (s : State) (r : Requester) (code : AnswerCode) :
    (s.answer r code).reply = s.reply := rfl
@[simp] theorem State.answer_pending (s : State) (r : Requester) (code : AnswerCode) :
    (s.answer r code).pending = s.pending := rfl

/-! ### `State.leaveHead` -/

@[simp] theorem State.leaveHead_mode (s : State) : s.leaveHead.mode = s.mode := rfl
@[simp] theorem State.leaveHead_pfwarn (s : State) : s.leaveHead.pfwarn = s.pfwarn := rfl
@[simp] theorem State.leaveHead_timebase (s : State) : s.leaveHead.timebase = s.timebase := rfl
@[simp] theorem State.leaveHead_refclkLeft (s : State) : s.leaveHead.refclkLeft = s.refclkLeft := rfl
@[simp] theorem State.leaveHead_settings (s : State) : s.leaveHead.settings = s.settings := rfl
@[simp] theorem State.leaveHead_windows (s : State) : s.leaveHead.windows = s.windows := rfl
@[simp] theorem State.leaveHead_contexts (s : State) : s.leaveHead.contexts = s.contexts := rfl
@[simp] theorem State.leaveHead_bindings (s : State) : s.leaveHead.bindings = s.bindings := rfl
@[simp] theorem State.leaveHead_inDoubt (s : State) : s.leaveHead.inDoubt = s.inDoubt := rfl
@[simp] theorem State.leaveHead_hold (s : State) : s.leaveHead.hold = s.hold := rfl
@[simp] theorem State.leaveHead_tracking (s : State) : s.leaveHead.tracking = s.tracking := rfl
@[simp] theorem State.leaveHead_ingress (s : State) :
    s.leaveHead.ingress = { s.ingress with queue := s.ingress.queue.tail, wait := none, timer := none, walk := none } := rfl
@[simp] theorem State.leaveHead_writer (s : State) : s.leaveHead.writer = s.writer := rfl
@[simp] theorem State.leaveHead_ring (s : State) : s.leaveHead.ring = s.ring := rfl
@[simp] theorem State.leaveHead_release (s : State) : s.leaveHead.release = s.release := rfl
@[simp] theorem State.leaveHead_recovery (s : State) : s.leaveHead.recovery = s.recovery := rfl
@[simp] theorem State.leaveHead_downstream (s : State) : s.leaveHead.downstream = s.downstream := rfl
@[simp] theorem State.leaveHead_events (s : State) : s.leaveHead.events = s.events := rfl
@[simp] theorem State.leaveHead_upOut (s : State) : s.leaveHead.upOut = s.upOut := rfl
@[simp] theorem State.leaveHead_dnOut (s : State) : s.leaveHead.dnOut = s.dnOut := rfl
@[simp] theorem State.leaveHead_reply (s : State) : s.leaveHead.reply = s.reply := rfl
@[simp] theorem State.leaveHead_pending (s : State) : s.leaveHead.pending = s.pending := rfl

/-! ### `State.dropSlots` -/

@[simp] theorem State.dropSlots_mode (s : State) (c : ContextIx) : (s.dropSlots c).mode = s.mode := rfl
@[simp] theorem State.dropSlots_pfwarn (s : State) (c : ContextIx) : (s.dropSlots c).pfwarn = s.pfwarn := rfl
@[simp] theorem State.dropSlots_timebase (s : State) (c : ContextIx) : (s.dropSlots c).timebase = s.timebase := rfl
@[simp] theorem State.dropSlots_refclkLeft (s : State) (c : ContextIx) :
    (s.dropSlots c).refclkLeft = s.refclkLeft := rfl
@[simp] theorem State.dropSlots_settings (s : State) (c : ContextIx) : (s.dropSlots c).settings = s.settings := rfl
@[simp] theorem State.dropSlots_windows (s : State) (c : ContextIx) : (s.dropSlots c).windows = s.windows := rfl
@[simp] theorem State.dropSlots_contexts (s : State) (c : ContextIx) : (s.dropSlots c).contexts = s.contexts := rfl
@[simp] theorem State.dropSlots_bindings (s : State) (c : ContextIx) : (s.dropSlots c).bindings = s.bindings := rfl
@[simp] theorem State.dropSlots_inDoubt (s : State) (c : ContextIx) : (s.dropSlots c).inDoubt = s.inDoubt := rfl
@[simp] theorem State.dropSlots_hold (s : State) (c : ContextIx) :
    (s.dropSlots c).hold = s.hold.filter fun h => h.owner ≠ c := rfl
@[simp] theorem State.dropSlots_tracking (s : State) (c : ContextIx) : (s.dropSlots c).tracking = s.tracking := rfl
@[simp] theorem State.dropSlots_ingress (s : State) (c : ContextIx) : (s.dropSlots c).ingress = s.ingress := rfl
@[simp] theorem State.dropSlots_writer (s : State) (c : ContextIx) : (s.dropSlots c).writer = s.writer := rfl
@[simp] theorem State.dropSlots_ring (s : State) (c : ContextIx) : (s.dropSlots c).ring = s.ring := rfl
@[simp] theorem State.dropSlots_release (s : State) (c : ContextIx) : (s.dropSlots c).release = s.release := rfl
@[simp] theorem State.dropSlots_recovery (s : State) (c : ContextIx) : (s.dropSlots c).recovery = s.recovery := rfl
@[simp] theorem State.dropSlots_downstream (s : State) (c : ContextIx) :
    (s.dropSlots c).downstream = s.downstream := rfl
@[simp] theorem State.dropSlots_events (s : State) (c : ContextIx) : (s.dropSlots c).events = s.events := rfl
@[simp] theorem State.dropSlots_upOut (s : State) (c : ContextIx) : (s.dropSlots c).upOut = s.upOut := rfl
@[simp] theorem State.dropSlots_dnOut (s : State) (c : ContextIx) : (s.dropSlots c).dnOut = s.dnOut := rfl
@[simp] theorem State.dropSlots_reply (s : State) (c : ContextIx) : (s.dropSlots c).reply = s.reply := rfl
@[simp] theorem State.dropSlots_pending (s : State) (c : ContextIx) : (s.dropSlots c).pending = s.pending := rfl

/-! ### `State.enqueueCommit` -/

@[simp] theorem State.enqueueCommit_mode (s : State) (c : ContextIx) : (s.enqueueCommit c).mode = s.mode := rfl
@[simp] theorem State.enqueueCommit_pfwarn (s : State) (c : ContextIx) : (s.enqueueCommit c).pfwarn = s.pfwarn := rfl
@[simp] theorem State.enqueueCommit_timebase (s : State) (c : ContextIx) :
    (s.enqueueCommit c).timebase = s.timebase := rfl
@[simp] theorem State.enqueueCommit_refclkLeft (s : State) (c : ContextIx) :
    (s.enqueueCommit c).refclkLeft = s.refclkLeft := rfl
@[simp] theorem State.enqueueCommit_settings (s : State) (c : ContextIx) :
    (s.enqueueCommit c).settings = s.settings := rfl
@[simp] theorem State.enqueueCommit_windows (s : State) (c : ContextIx) : (s.enqueueCommit c).windows = s.windows := rfl
@[simp] theorem State.enqueueCommit_contexts (s : State) (c : ContextIx) :
    (s.enqueueCommit c).contexts = s.contexts := rfl
@[simp] theorem State.enqueueCommit_bindings (s : State) (c : ContextIx) :
    (s.enqueueCommit c).bindings = s.bindings := rfl
@[simp] theorem State.enqueueCommit_inDoubt (s : State) (c : ContextIx) : (s.enqueueCommit c).inDoubt = s.inDoubt := rfl
@[simp] theorem State.enqueueCommit_hold (s : State) (c : ContextIx) : (s.enqueueCommit c).hold = s.hold := rfl
@[simp] theorem State.enqueueCommit_tracking (s : State) (c : ContextIx) :
    (s.enqueueCommit c).tracking = s.tracking := rfl
@[simp] theorem State.enqueueCommit_ingress (s : State) (c : ContextIx) : (s.enqueueCommit c).ingress = s.ingress := rfl
@[simp] theorem State.enqueueCommit_writer (s : State) (c : ContextIx) :
    (s.enqueueCommit c).writer = { s.writer with commitQueue := s.writer.commitQueue ++ [c] } := rfl
@[simp] theorem State.enqueueCommit_ring (s : State) (c : ContextIx) : (s.enqueueCommit c).ring = s.ring := rfl
@[simp] theorem State.enqueueCommit_release (s : State) (c : ContextIx) : (s.enqueueCommit c).release = s.release := rfl
@[simp] theorem State.enqueueCommit_recovery (s : State) (c : ContextIx) :
    (s.enqueueCommit c).recovery = s.recovery := rfl
@[simp] theorem State.enqueueCommit_downstream (s : State) (c : ContextIx) :
    (s.enqueueCommit c).downstream = s.downstream := rfl
@[simp] theorem State.enqueueCommit_events (s : State) (c : ContextIx) : (s.enqueueCommit c).events = s.events := rfl
@[simp] theorem State.enqueueCommit_upOut (s : State) (c : ContextIx) : (s.enqueueCommit c).upOut = s.upOut := rfl
@[simp] theorem State.enqueueCommit_dnOut (s : State) (c : ContextIx) : (s.enqueueCommit c).dnOut = s.dnOut := rfl
@[simp] theorem State.enqueueCommit_reply (s : State) (c : ContextIx) : (s.enqueueCommit c).reply = s.reply := rfl
@[simp] theorem State.enqueueCommit_pending (s : State) (c : ContextIx) : (s.enqueueCommit c).pending = s.pending := rfl

/-! ### `State.readReply` -/

@[simp] theorem State.readReply_mode (s : State) (v : Word32) (st : Status) : (s.readReply v st).mode = s.mode := rfl
@[simp] theorem State.readReply_pfwarn (s : State) (v : Word32) (st : Status) :
    (s.readReply v st).pfwarn = s.pfwarn := rfl
@[simp] theorem State.readReply_timebase (s : State) (v : Word32) (st : Status) :
    (s.readReply v st).timebase = s.timebase := rfl
@[simp] theorem State.readReply_refclkLeft (s : State) (v : Word32) (st : Status) :
    (s.readReply v st).refclkLeft = s.refclkLeft := rfl
@[simp] theorem State.readReply_settings (s : State) (v : Word32) (st : Status) :
    (s.readReply v st).settings = s.settings := rfl
@[simp] theorem State.readReply_windows (s : State) (v : Word32) (st : Status) :
    (s.readReply v st).windows = s.windows := rfl
@[simp] theorem State.readReply_contexts (s : State) (v : Word32) (st : Status) :
    (s.readReply v st).contexts = s.contexts := rfl
@[simp] theorem State.readReply_bindings (s : State) (v : Word32) (st : Status) :
    (s.readReply v st).bindings = s.bindings := rfl
@[simp] theorem State.readReply_inDoubt (s : State) (v : Word32) (st : Status) :
    (s.readReply v st).inDoubt = s.inDoubt := rfl
@[simp] theorem State.readReply_hold (s : State) (v : Word32) (st : Status) : (s.readReply v st).hold = s.hold := rfl
@[simp] theorem State.readReply_tracking (s : State) (v : Word32) (st : Status) :
    (s.readReply v st).tracking = s.tracking := rfl
@[simp] theorem State.readReply_ingress (s : State) (v : Word32) (st : Status) :
    (s.readReply v st).ingress = s.ingress := rfl
@[simp] theorem State.readReply_writer (s : State) (v : Word32) (st : Status) :
    (s.readReply v st).writer = s.writer := rfl
@[simp] theorem State.readReply_ring (s : State) (v : Word32) (st : Status) : (s.readReply v st).ring = s.ring := rfl
@[simp] theorem State.readReply_release (s : State) (v : Word32) (st : Status) :
    (s.readReply v st).release = s.release := rfl
@[simp] theorem State.readReply_recovery (s : State) (v : Word32) (st : Status) :
    (s.readReply v st).recovery = s.recovery := rfl
@[simp] theorem State.readReply_downstream (s : State) (v : Word32) (st : Status) :
    (s.readReply v st).downstream = s.downstream := rfl
@[simp] theorem State.readReply_events (s : State) (v : Word32) (st : Status) :
    (s.readReply v st).events = s.events := rfl
@[simp] theorem State.readReply_upOut (s : State) (v : Word32) (st : Status) : (s.readReply v st).upOut = s.upOut := rfl
@[simp] theorem State.readReply_dnOut (s : State) (v : Word32) (st : Status) : (s.readReply v st).dnOut = s.dnOut := rfl
@[simp] theorem State.readReply_reply (s : State) (v : Word32) (st : Status) :
    (s.readReply v st).reply = some ⟨some v, some st⟩ := rfl
@[simp] theorem State.readReply_pending (s : State) (v : Word32) (st : Status) :
    (s.readReply v st).pending = s.pending := rfl

/-! ### `State.writeReply` -/

@[simp] theorem State.writeReply_mode (s : State) (st : Status) : (s.writeReply st).mode = s.mode := rfl
@[simp] theorem State.writeReply_pfwarn (s : State) (st : Status) : (s.writeReply st).pfwarn = s.pfwarn := rfl
@[simp] theorem State.writeReply_timebase (s : State) (st : Status) : (s.writeReply st).timebase = s.timebase := rfl
@[simp] theorem State.writeReply_refclkLeft (s : State) (st : Status) :
    (s.writeReply st).refclkLeft = s.refclkLeft := rfl
@[simp] theorem State.writeReply_settings (s : State) (st : Status) : (s.writeReply st).settings = s.settings := rfl
@[simp] theorem State.writeReply_windows (s : State) (st : Status) : (s.writeReply st).windows = s.windows := rfl
@[simp] theorem State.writeReply_contexts (s : State) (st : Status) : (s.writeReply st).contexts = s.contexts := rfl
@[simp] theorem State.writeReply_bindings (s : State) (st : Status) : (s.writeReply st).bindings = s.bindings := rfl
@[simp] theorem State.writeReply_inDoubt (s : State) (st : Status) : (s.writeReply st).inDoubt = s.inDoubt := rfl
@[simp] theorem State.writeReply_hold (s : State) (st : Status) : (s.writeReply st).hold = s.hold := rfl
@[simp] theorem State.writeReply_tracking (s : State) (st : Status) : (s.writeReply st).tracking = s.tracking := rfl
@[simp] theorem State.writeReply_ingress (s : State) (st : Status) : (s.writeReply st).ingress = s.ingress := rfl
@[simp] theorem State.writeReply_writer (s : State) (st : Status) : (s.writeReply st).writer = s.writer := rfl
@[simp] theorem State.writeReply_ring (s : State) (st : Status) : (s.writeReply st).ring = s.ring := rfl
@[simp] theorem State.writeReply_release (s : State) (st : Status) : (s.writeReply st).release = s.release := rfl
@[simp] theorem State.writeReply_recovery (s : State) (st : Status) : (s.writeReply st).recovery = s.recovery := rfl
@[simp] theorem State.writeReply_downstream (s : State) (st : Status) :
    (s.writeReply st).downstream = s.downstream := rfl
@[simp] theorem State.writeReply_events (s : State) (st : Status) : (s.writeReply st).events = s.events := rfl
@[simp] theorem State.writeReply_upOut (s : State) (st : Status) : (s.writeReply st).upOut = s.upOut := rfl
@[simp] theorem State.writeReply_dnOut (s : State) (st : Status) : (s.writeReply st).dnOut = s.dnOut := rfl
@[simp] theorem State.writeReply_reply (s : State) (st : Status) : (s.writeReply st).reply = some ⟨none, some st⟩ := rfl
@[simp] theorem State.writeReply_pending (s : State) (st : Status) : (s.writeReply st).pending = s.pending := rfl

/-! ### `State.removeEntry` -/

@[simp] theorem State.removeEntry_mode (s : State) (t : XferTag) : (s.removeEntry t).mode = s.mode := rfl
@[simp] theorem State.removeEntry_pfwarn (s : State) (t : XferTag) : (s.removeEntry t).pfwarn = s.pfwarn := rfl
@[simp] theorem State.removeEntry_timebase (s : State) (t : XferTag) : (s.removeEntry t).timebase = s.timebase := rfl
@[simp] theorem State.removeEntry_refclkLeft (s : State) (t : XferTag) :
    (s.removeEntry t).refclkLeft = s.refclkLeft := rfl
@[simp] theorem State.removeEntry_settings (s : State) (t : XferTag) : (s.removeEntry t).settings = s.settings := rfl
@[simp] theorem State.removeEntry_windows (s : State) (t : XferTag) : (s.removeEntry t).windows = s.windows := rfl
@[simp] theorem State.removeEntry_contexts (s : State) (t : XferTag) : (s.removeEntry t).contexts = s.contexts := rfl
@[simp] theorem State.removeEntry_bindings (s : State) (t : XferTag) : (s.removeEntry t).bindings = s.bindings := rfl
@[simp] theorem State.removeEntry_inDoubt (s : State) (t : XferTag) : (s.removeEntry t).inDoubt = s.inDoubt := rfl
@[simp] theorem State.removeEntry_hold (s : State) (t : XferTag) : (s.removeEntry t).hold = s.hold := rfl
@[simp] theorem State.removeEntry_tracking (s : State) (t : XferTag) : (s.removeEntry t).tracking = s.tracking := rfl
@[simp] theorem State.removeEntry_ingress (s : State) (t : XferTag) : (s.removeEntry t).ingress = s.ingress := rfl
@[simp] theorem State.removeEntry_writer (s : State) (t : XferTag) : (s.removeEntry t).writer = s.writer := rfl
@[simp] theorem State.removeEntry_ring (s : State) (t : XferTag) : (s.removeEntry t).ring = s.ring := rfl
@[simp] theorem State.removeEntry_release (s : State) (t : XferTag) : (s.removeEntry t).release = s.release := rfl
@[simp] theorem State.removeEntry_recovery (s : State) (t : XferTag) : (s.removeEntry t).recovery = s.recovery := rfl
@[simp] theorem State.removeEntry_downstream (s : State) (t : XferTag) :
    (s.removeEntry t).downstream = { s.downstream with outstanding := s.downstream.outstanding.filter fun e => e.tag ≠ t } := rfl
@[simp] theorem State.removeEntry_events (s : State) (t : XferTag) : (s.removeEntry t).events = s.events := rfl
@[simp] theorem State.removeEntry_upOut (s : State) (t : XferTag) : (s.removeEntry t).upOut = s.upOut := rfl
@[simp] theorem State.removeEntry_dnOut (s : State) (t : XferTag) : (s.removeEntry t).dnOut = s.dnOut := rfl
@[simp] theorem State.removeEntry_reply (s : State) (t : XferTag) : (s.removeEntry t).reply = s.reply := rfl
@[simp] theorem State.removeEntry_pending (s : State) (t : XferTag) : (s.removeEntry t).pending = s.pending := rfl

/-! ### `State.haltRelease` -/

@[simp] theorem State.haltRelease_mode (s : State) : s.haltRelease.mode = s.mode := rfl
@[simp] theorem State.haltRelease_pfwarn (s : State) : s.haltRelease.pfwarn = s.pfwarn := rfl
@[simp] theorem State.haltRelease_timebase (s : State) : s.haltRelease.timebase = s.timebase := rfl
@[simp] theorem State.haltRelease_refclkLeft (s : State) : s.haltRelease.refclkLeft = s.refclkLeft := rfl
@[simp] theorem State.haltRelease_settings (s : State) : s.haltRelease.settings = s.settings := rfl
@[simp] theorem State.haltRelease_windows (s : State) : s.haltRelease.windows = s.windows := rfl
@[simp] theorem State.haltRelease_contexts (s : State) : s.haltRelease.contexts = s.contexts := rfl
@[simp] theorem State.haltRelease_bindings (s : State) : s.haltRelease.bindings = s.bindings := rfl
@[simp] theorem State.haltRelease_inDoubt (s : State) : s.haltRelease.inDoubt = s.inDoubt := rfl
@[simp] theorem State.haltRelease_hold (s : State) : s.haltRelease.hold = s.hold := rfl
@[simp] theorem State.haltRelease_tracking (s : State) : s.haltRelease.tracking = s.tracking := rfl
@[simp] theorem State.haltRelease_ingress (s : State) : s.haltRelease.ingress = s.ingress := rfl
@[simp] theorem State.haltRelease_writer (s : State) : s.haltRelease.writer = s.writer := rfl
@[simp] theorem State.haltRelease_ring (s : State) : s.haltRelease.ring = s.ring := rfl
@[simp] theorem State.haltRelease_release (s : State) :
    s.haltRelease.release = { s.release with active := false, presented := none } := rfl
@[simp] theorem State.haltRelease_recovery (s : State) : s.haltRelease.recovery = s.recovery := rfl
@[simp] theorem State.haltRelease_downstream (s : State) : s.haltRelease.downstream = s.downstream := rfl
@[simp] theorem State.haltRelease_events (s : State) : s.haltRelease.events = s.events := rfl
@[simp] theorem State.haltRelease_upOut (s : State) : s.haltRelease.upOut = s.upOut := rfl
@[simp] theorem State.haltRelease_dnOut (s : State) : s.haltRelease.dnOut = s.dnOut := rfl
@[simp] theorem State.haltRelease_reply (s : State) : s.haltRelease.reply = s.reply := rfl
@[simp] theorem State.haltRelease_pending (s : State) : s.haltRelease.pending = s.pending := rfl

/-! ### `State.abandonUpdate` -/

@[simp] theorem State.abandonUpdate_mode (s : State) : s.abandonUpdate.mode = s.mode := rfl
@[simp] theorem State.abandonUpdate_pfwarn (s : State) : s.abandonUpdate.pfwarn = s.pfwarn := rfl
@[simp] theorem State.abandonUpdate_timebase (s : State) : s.abandonUpdate.timebase = s.timebase := rfl
@[simp] theorem State.abandonUpdate_refclkLeft (s : State) : s.abandonUpdate.refclkLeft = s.refclkLeft := rfl
@[simp] theorem State.abandonUpdate_settings (s : State) : s.abandonUpdate.settings = s.settings := rfl
@[simp] theorem State.abandonUpdate_windows (s : State) : s.abandonUpdate.windows = s.windows := rfl
@[simp] theorem State.abandonUpdate_contexts (s : State) : s.abandonUpdate.contexts = s.contexts := rfl
@[simp] theorem State.abandonUpdate_bindings (s : State) : s.abandonUpdate.bindings = s.bindings := rfl
@[simp] theorem State.abandonUpdate_inDoubt (s : State) : s.abandonUpdate.inDoubt = s.inDoubt := rfl
@[simp] theorem State.abandonUpdate_hold (s : State) : s.abandonUpdate.hold = s.hold := rfl
@[simp] theorem State.abandonUpdate_tracking (s : State) : s.abandonUpdate.tracking = s.tracking := rfl
@[simp] theorem State.abandonUpdate_ingress (s : State) : s.abandonUpdate.ingress = s.ingress := rfl
@[simp] theorem State.abandonUpdate_writer (s : State) : s.abandonUpdate.writer = s.writer := rfl
@[simp] theorem State.abandonUpdate_ring (s : State) :
    s.abandonUpdate.ring = { s.ring with
      update := .idle, snapshot := none, closing := false, toIssue := [], writesAcked := 0 } := rfl
@[simp] theorem State.abandonUpdate_release (s : State) : s.abandonUpdate.release = s.release := rfl
@[simp] theorem State.abandonUpdate_recovery (s : State) : s.abandonUpdate.recovery = s.recovery := rfl
@[simp] theorem State.abandonUpdate_downstream (s : State) : s.abandonUpdate.downstream = s.downstream := rfl
@[simp] theorem State.abandonUpdate_events (s : State) : s.abandonUpdate.events = s.events := rfl
@[simp] theorem State.abandonUpdate_upOut (s : State) : s.abandonUpdate.upOut = s.upOut := rfl
@[simp] theorem State.abandonUpdate_dnOut (s : State) : s.abandonUpdate.dnOut = s.dnOut := rfl
@[simp] theorem State.abandonUpdate_reply (s : State) : s.abandonUpdate.reply = s.reply := rfl
@[simp] theorem State.abandonUpdate_pending (s : State) : s.abandonUpdate.pending = s.pending := rfl

/-! ### `State.stopRing` -/

@[simp] theorem State.stopRing_mode (s : State) : s.stopRing.mode = s.mode := rfl
@[simp] theorem State.stopRing_pfwarn (s : State) : s.stopRing.pfwarn = s.pfwarn := rfl
@[simp] theorem State.stopRing_timebase (s : State) : s.stopRing.timebase = s.timebase := rfl
@[simp] theorem State.stopRing_refclkLeft (s : State) : s.stopRing.refclkLeft = s.refclkLeft := rfl
@[simp] theorem State.stopRing_settings (s : State) : s.stopRing.settings = s.settings := rfl
@[simp] theorem State.stopRing_windows (s : State) : s.stopRing.windows = s.windows := rfl
@[simp] theorem State.stopRing_contexts (s : State) : s.stopRing.contexts = s.contexts := rfl
@[simp] theorem State.stopRing_bindings (s : State) : s.stopRing.bindings = s.bindings := rfl
@[simp] theorem State.stopRing_inDoubt (s : State) : s.stopRing.inDoubt = s.inDoubt := rfl
@[simp] theorem State.stopRing_hold (s : State) : s.stopRing.hold = s.hold := rfl
@[simp] theorem State.stopRing_tracking (s : State) : s.stopRing.tracking = s.tracking := rfl
@[simp] theorem State.stopRing_ingress (s : State) : s.stopRing.ingress = s.ingress := rfl
@[simp] theorem State.stopRing_writer (s : State) : s.stopRing.writer = s.writer := rfl
@[simp] theorem State.stopRing_ring (s : State) :
    s.stopRing.ring = { s.ring with
      update := .idle, snapshot := none, closing := false, toIssue := [], writesAcked := 0, again := false
      spaceRequest := false } := rfl
@[simp] theorem State.stopRing_release (s : State) : s.stopRing.release = s.release := rfl
@[simp] theorem State.stopRing_recovery (s : State) : s.stopRing.recovery = s.recovery := rfl
@[simp] theorem State.stopRing_downstream (s : State) : s.stopRing.downstream = s.downstream := rfl
@[simp] theorem State.stopRing_events (s : State) : s.stopRing.events = s.events := rfl
@[simp] theorem State.stopRing_upOut (s : State) : s.stopRing.upOut = s.upOut := rfl
@[simp] theorem State.stopRing_dnOut (s : State) : s.stopRing.dnOut = s.dnOut := rfl
@[simp] theorem State.stopRing_reply (s : State) : s.stopRing.reply = s.reply := rfl
@[simp] theorem State.stopRing_pending (s : State) : s.stopRing.pending = s.pending := rfl

/-! ### `State.beginAnchors` -/

@[simp] theorem State.beginAnchors_mode (s : State) (f : Bool) : (s.beginAnchors f).mode = s.mode := rfl
@[simp] theorem State.beginAnchors_pfwarn (s : State) (f : Bool) : (s.beginAnchors f).pfwarn = s.pfwarn := rfl
@[simp] theorem State.beginAnchors_timebase (s : State) (f : Bool) : (s.beginAnchors f).timebase = s.timebase := rfl
@[simp] theorem State.beginAnchors_refclkLeft (s : State) (f : Bool) :
    (s.beginAnchors f).refclkLeft = s.refclkLeft := rfl
@[simp] theorem State.beginAnchors_settings (s : State) (f : Bool) : (s.beginAnchors f).settings = s.settings := rfl
@[simp] theorem State.beginAnchors_windows (s : State) (f : Bool) : (s.beginAnchors f).windows = s.windows := rfl
@[simp] theorem State.beginAnchors_contexts (s : State) (f : Bool) : (s.beginAnchors f).contexts = s.contexts := rfl
@[simp] theorem State.beginAnchors_bindings (s : State) (f : Bool) : (s.beginAnchors f).bindings = s.bindings := rfl
@[simp] theorem State.beginAnchors_inDoubt (s : State) (f : Bool) : (s.beginAnchors f).inDoubt = s.inDoubt := rfl
@[simp] theorem State.beginAnchors_hold (s : State) (f : Bool) : (s.beginAnchors f).hold = s.hold := rfl
@[simp] theorem State.beginAnchors_tracking (s : State) (f : Bool) : (s.beginAnchors f).tracking = s.tracking := rfl
@[simp] theorem State.beginAnchors_ingress (s : State) (f : Bool) : (s.beginAnchors f).ingress = s.ingress := rfl
@[simp] theorem State.beginAnchors_writer (s : State) (f : Bool) : (s.beginAnchors f).writer = s.writer := rfl
@[simp] theorem State.beginAnchors_ring (s : State) (f : Bool) : (s.beginAnchors f).ring = s.ring := rfl
@[simp] theorem State.beginAnchors_release (s : State) (f : Bool) : (s.beginAnchors f).release = s.release := rfl
@[simp] theorem State.beginAnchors_recovery (s : State) (f : Bool) :
    (s.beginAnchors f).recovery = {
      phase := .anchors f none none
      toIssue := [(.read (s.copyAddr .a) Config.anchorBytes, .anchorRead .a),
                  (.read (s.copyAddr .b) Config.anchorBytes, .anchorRead .b)] } := rfl
@[simp] theorem State.beginAnchors_downstream (s : State) (f : Bool) :
    (s.beginAnchors f).downstream = s.downstream := rfl
@[simp] theorem State.beginAnchors_events (s : State) (f : Bool) : (s.beginAnchors f).events = s.events := rfl
@[simp] theorem State.beginAnchors_upOut (s : State) (f : Bool) : (s.beginAnchors f).upOut = s.upOut := rfl
@[simp] theorem State.beginAnchors_dnOut (s : State) (f : Bool) : (s.beginAnchors f).dnOut = s.dnOut := rfl
@[simp] theorem State.beginAnchors_reply (s : State) (f : Bool) : (s.beginAnchors f).reply = s.reply := rfl
@[simp] theorem State.beginAnchors_pending (s : State) (f : Bool) : (s.beginAnchors f).pending = s.pending := rfl

end Sys2Proof.Machine
end

