-- ==== Sys2Proof/Laws/Ops.lean ====
section
/-! SUPPORT. What each shared operation can do, said once. -/

namespace Sys2Proof.Machine

/-! ### Events -/

/-- A push changes the event queue only (R187). -/
theorem State.push_eq (s : State) (b : EventBody) : s.push b = { s with events := (s.push b).events } := by
  unfold State.push; split <;> rfl

theorem State.push_of_room {s : State} (b : EventBody) (h : s.events.entries.length < 64) :
    s.push b = { s with events := { s.events with entries := s.events.entries ++ [⟨s.timebase.setWidth 32, b⟩] } } := by
  unfold State.push; exact if_pos h

theorem State.push_of_full {s : State} (b : EventBody) (h : ¬s.events.entries.length < 64) :
    s.push b = { s with events := { s.events with overflow := true } } := by
  unfold State.push; exact if_neg h

/-- What a push does to the event queue depends on the queue and the timebase alone. -/
theorem State.push_events_congr {s t : State} (b : EventBody) (he : s.events = t.events) (ht : s.timebase = t.timebase) :
    (s.push b).events = (t.push b).events := by
  unfold State.push; rw [he, ht]; split <;> rfl

/-- A pushed event reaches the tail of the queue, or the overflow flag is set (R187). -/
theorem State.push_mem_or_overflow (s : State) (b : EventBody) :
    (⟨s.timebase.setWidth 32, b⟩ : Event) ∈ (s.push b).events.entries ∨ (s.push b).events.overflow = true := by
  unfold State.push; split
  · left; simp
  · right; rfl

/-- The event queue never passes 64 entries (R187). -/
theorem State.push_length_le {s : State} (b : EventBody) (h : s.events.entries.length ≤ 64) :
    (s.push b).events.entries.length ≤ 64 := by
  by_cases hl : s.events.entries.length < 64
  · rw [State.push_of_room b hl]; simp; omega
  · rw [State.push_of_full b hl]; exact h

@[simp] theorem State.push_mode (s : State) (b : EventBody) : (s.push b).mode = s.mode := by
  unfold State.push; split <;> rfl
@[simp] theorem State.push_pfwarn (s : State) (b : EventBody) : (s.push b).pfwarn = s.pfwarn := by
  unfold State.push; split <;> rfl
@[simp] theorem State.push_timebase (s : State) (b : EventBody) : (s.push b).timebase = s.timebase := by
  unfold State.push; split <;> rfl
@[simp] theorem State.push_refclkLeft (s : State) (b : EventBody) : (s.push b).refclkLeft = s.refclkLeft := by
  unfold State.push; split <;> rfl
@[simp] theorem State.push_settings (s : State) (b : EventBody) : (s.push b).settings = s.settings := by
  unfold State.push; split <;> rfl
@[simp] theorem State.push_windows (s : State) (b : EventBody) : (s.push b).windows = s.windows := by
  unfold State.push; split <;> rfl
@[simp] theorem State.push_contexts (s : State) (b : EventBody) : (s.push b).contexts = s.contexts := by
  unfold State.push; split <;> rfl
@[simp] theorem State.push_bindings (s : State) (b : EventBody) : (s.push b).bindings = s.bindings := by
  unfold State.push; split <;> rfl
@[simp] theorem State.push_inDoubt (s : State) (b : EventBody) : (s.push b).inDoubt = s.inDoubt := by
  unfold State.push; split <;> rfl
@[simp] theorem State.push_hold (s : State) (b : EventBody) : (s.push b).hold = s.hold := by
  unfold State.push; split <;> rfl
@[simp] theorem State.push_tracking (s : State) (b : EventBody) : (s.push b).tracking = s.tracking := by
  unfold State.push; split <;> rfl
@[simp] theorem State.push_ingress (s : State) (b : EventBody) : (s.push b).ingress = s.ingress := by
  unfold State.push; split <;> rfl
@[simp] theorem State.push_writer (s : State) (b : EventBody) : (s.push b).writer = s.writer := by
  unfold State.push; split <;> rfl
@[simp] theorem State.push_ring (s : State) (b : EventBody) : (s.push b).ring = s.ring := by
  unfold State.push; split <;> rfl
@[simp] theorem State.push_release (s : State) (b : EventBody) : (s.push b).release = s.release := by
  unfold State.push; split <;> rfl
@[simp] theorem State.push_recovery (s : State) (b : EventBody) : (s.push b).recovery = s.recovery := by
  unfold State.push; split <;> rfl
@[simp] theorem State.push_downstream (s : State) (b : EventBody) : (s.push b).downstream = s.downstream := by
  unfold State.push; split <;> rfl
@[simp] theorem State.push_upOut (s : State) (b : EventBody) : (s.push b).upOut = s.upOut := by
  unfold State.push; split <;> rfl
@[simp] theorem State.push_dnOut (s : State) (b : EventBody) : (s.push b).dnOut = s.dnOut := by
  unfold State.push; split <;> rfl
@[simp] theorem State.push_reply (s : State) (b : EventBody) : (s.push b).reply = s.reply := by
  unfold State.push; split <;> rfl
@[simp] theorem State.push_pending (s : State) (b : EventBody) : (s.push b).pending = s.pending := by
  unfold State.push; split <;> rfl

@[simp] theorem State.pushIf_mode (s : State) (e : Bool) (b : EventBody) : (s.pushIf e b).mode = s.mode := by
  unfold State.pushIf; split <;> simp
@[simp] theorem State.pushIf_pfwarn (s : State) (e : Bool) (b : EventBody) : (s.pushIf e b).pfwarn = s.pfwarn := by
  unfold State.pushIf; split <;> simp
@[simp] theorem State.pushIf_timebase (s : State) (e : Bool) (b : EventBody) : (s.pushIf e b).timebase = s.timebase := by
  unfold State.pushIf; split <;> simp
@[simp] theorem State.pushIf_refclkLeft (s : State) (e : Bool) (b : EventBody) : (s.pushIf e b).refclkLeft = s.refclkLeft := by
  unfold State.pushIf; split <;> simp
@[simp] theorem State.pushIf_settings (s : State) (e : Bool) (b : EventBody) : (s.pushIf e b).settings = s.settings := by
  unfold State.pushIf; split <;> simp
@[simp] theorem State.pushIf_windows (s : State) (e : Bool) (b : EventBody) : (s.pushIf e b).windows = s.windows := by
  unfold State.pushIf; split <;> simp
@[simp] theorem State.pushIf_contexts (s : State) (e : Bool) (b : EventBody) : (s.pushIf e b).contexts = s.contexts := by
  unfold State.pushIf; split <;> simp
@[simp] theorem State.pushIf_bindings (s : State) (e : Bool) (b : EventBody) : (s.pushIf e b).bindings = s.bindings := by
  unfold State.pushIf; split <;> simp
@[simp] theorem State.pushIf_inDoubt (s : State) (e : Bool) (b : EventBody) : (s.pushIf e b).inDoubt = s.inDoubt := by
  unfold State.pushIf; split <;> simp
@[simp] theorem State.pushIf_hold (s : State) (e : Bool) (b : EventBody) : (s.pushIf e b).hold = s.hold := by
  unfold State.pushIf; split <;> simp
@[simp] theorem State.pushIf_tracking (s : State) (e : Bool) (b : EventBody) : (s.pushIf e b).tracking = s.tracking := by
  unfold State.pushIf; split <;> simp
@[simp] theorem State.pushIf_ingress (s : State) (e : Bool) (b : EventBody) : (s.pushIf e b).ingress = s.ingress := by
  unfold State.pushIf; split <;> simp
@[simp] theorem State.pushIf_writer (s : State) (e : Bool) (b : EventBody) : (s.pushIf e b).writer = s.writer := by
  unfold State.pushIf; split <;> simp
@[simp] theorem State.pushIf_ring (s : State) (e : Bool) (b : EventBody) : (s.pushIf e b).ring = s.ring := by
  unfold State.pushIf; split <;> simp
@[simp] theorem State.pushIf_release (s : State) (e : Bool) (b : EventBody) : (s.pushIf e b).release = s.release := by
  unfold State.pushIf; split <;> simp
@[simp] theorem State.pushIf_recovery (s : State) (e : Bool) (b : EventBody) : (s.pushIf e b).recovery = s.recovery := by
  unfold State.pushIf; split <;> simp
@[simp] theorem State.pushIf_downstream (s : State) (e : Bool) (b : EventBody) : (s.pushIf e b).downstream = s.downstream := by
  unfold State.pushIf; split <;> simp
@[simp] theorem State.pushIf_upOut (s : State) (e : Bool) (b : EventBody) : (s.pushIf e b).upOut = s.upOut := by
  unfold State.pushIf; split <;> simp
@[simp] theorem State.pushIf_dnOut (s : State) (e : Bool) (b : EventBody) : (s.pushIf e b).dnOut = s.dnOut := by
  unfold State.pushIf; split <;> simp
@[simp] theorem State.pushIf_reply (s : State) (e : Bool) (b : EventBody) : (s.pushIf e b).reply = s.reply := by
  unfold State.pushIf; split <;> simp
@[simp] theorem State.pushIf_pending (s : State) (e : Bool) (b : EventBody) : (s.pushIf e b).pending = s.pending := by
  unfold State.pushIf; split <;> simp

theorem State.push_leaveHead (s : State) (b : EventBody) : (s.push b).leaveHead = s.leaveHead.push b := by
  unfold State.push; rw [apply_ite State.leaveHead]; rfl

theorem State.push_endRequest (s : State) (b : EventBody) (r : Requester) (code : AnswerCode) :
    (s.push b).endRequest r code = (s.endRequest r code).push b := by
  unfold State.push; rw [apply_ite fun x => State.endRequest x r code]; rfl

theorem State.push_removeEntry (s : State) (b : EventBody) (t : XferTag) :
    (s.push b).removeEntry t = (s.removeEntry t).push b := by
  unfold State.push; rw [apply_ite fun x => State.removeEntry x t]; rfl

@[simp] theorem State.push_ctx (s : State) (b : EventBody) (c : ContextIx) : (s.push b).ctx c = s.ctx c := by
  unfold State.push; split <;> rfl

@[simp] theorem State.push_entryCount (s : State) (b : EventBody) (c : ContextIx) :
    (s.push b).entryCount c = s.entryCount c := by
  unfold State.push; split <;> rfl

@[simp] theorem State.push_entry (s : State) (b : EventBody) (t : XferTag) : (s.push b).entry t = s.entry t := by
  unfold State.push; split <;> rfl

/-! ### Waits of the head -/

/-- Ending a wait changes the wait alone (R167). -/
theorem State.endWait_eq (s : State) (f : HeadWait → Bool) :
    s.endWait f = { s with ingress := { s.ingress with wait := s.ingress.wait.filter fun w => !f w } } := by
  unfold State.endWait
  split
  · rename_i w h
    split
    · rename_i hf; rw [h]; simp only [Option.filter, hf]; rfl
    · rename_i hf
      have e : s.ingress.wait.filter (fun w => !f w) = s.ingress.wait := by rw [h]; simp [hf]
      rw [e]
  · rename_i h
    have e : s.ingress.wait.filter (fun w => !f w) = s.ingress.wait := by rw [h]; rfl
    rw [e]

theorem State.endWait_of_none {s : State} (f : HeadWait → Bool) (h : s.ingress.wait = none) : s.endWait f = s := by
  unfold State.endWait; rw [h]

@[simp] theorem State.endWait_mode (s : State) (f : HeadWait → Bool) : (s.endWait f).mode = s.mode := by
  rw [State.endWait_eq]
@[simp] theorem State.endWait_pfwarn (s : State) (f : HeadWait → Bool) : (s.endWait f).pfwarn = s.pfwarn := by
  rw [State.endWait_eq]
@[simp] theorem State.endWait_timebase (s : State) (f : HeadWait → Bool) : (s.endWait f).timebase = s.timebase := by
  rw [State.endWait_eq]
@[simp] theorem State.endWait_refclkLeft (s : State) (f : HeadWait → Bool) : (s.endWait f).refclkLeft = s.refclkLeft := by
  rw [State.endWait_eq]
@[simp] theorem State.endWait_settings (s : State) (f : HeadWait → Bool) : (s.endWait f).settings = s.settings := by
  rw [State.endWait_eq]
@[simp] theorem State.endWait_windows (s : State) (f : HeadWait → Bool) : (s.endWait f).windows = s.windows := by
  rw [State.endWait_eq]
@[simp] theorem State.endWait_contexts (s : State) (f : HeadWait → Bool) : (s.endWait f).contexts = s.contexts := by
  rw [State.endWait_eq]
@[simp] theorem State.endWait_bindings (s : State) (f : HeadWait → Bool) : (s.endWait f).bindings = s.bindings := by
  rw [State.endWait_eq]
@[simp] theorem State.endWait_inDoubt (s : State) (f : HeadWait → Bool) : (s.endWait f).inDoubt = s.inDoubt := by
  rw [State.endWait_eq]
@[simp] theorem State.endWait_hold (s : State) (f : HeadWait → Bool) : (s.endWait f).hold = s.hold := by
  rw [State.endWait_eq]
@[simp] theorem State.endWait_tracking (s : State) (f : HeadWait → Bool) : (s.endWait f).tracking = s.tracking := by
  rw [State.endWait_eq]
@[simp] theorem State.endWait_writer (s : State) (f : HeadWait → Bool) : (s.endWait f).writer = s.writer := by
  rw [State.endWait_eq]
@[simp] theorem State.endWait_ring (s : State) (f : HeadWait → Bool) : (s.endWait f).ring = s.ring := by
  rw [State.endWait_eq]
@[simp] theorem State.endWait_release (s : State) (f : HeadWait → Bool) : (s.endWait f).release = s.release := by
  rw [State.endWait_eq]
@[simp] theorem State.endWait_recovery (s : State) (f : HeadWait → Bool) : (s.endWait f).recovery = s.recovery := by
  rw [State.endWait_eq]
@[simp] theorem State.endWait_downstream (s : State) (f : HeadWait → Bool) : (s.endWait f).downstream = s.downstream := by
  rw [State.endWait_eq]
@[simp] theorem State.endWait_events (s : State) (f : HeadWait → Bool) : (s.endWait f).events = s.events := by
  rw [State.endWait_eq]
@[simp] theorem State.endWait_upOut (s : State) (f : HeadWait → Bool) : (s.endWait f).upOut = s.upOut := by
  rw [State.endWait_eq]
@[simp] theorem State.endWait_dnOut (s : State) (f : HeadWait → Bool) : (s.endWait f).dnOut = s.dnOut := by
  rw [State.endWait_eq]
@[simp] theorem State.endWait_reply (s : State) (f : HeadWait → Bool) : (s.endWait f).reply = s.reply := by
  rw [State.endWait_eq]
@[simp] theorem State.endWait_pending (s : State) (f : HeadWait → Bool) : (s.endWait f).pending = s.pending := by
  rw [State.endWait_eq]

@[simp] theorem State.endWait_ctx (s : State) (f : HeadWait → Bool) (c : ContextIx) : (s.endWait f).ctx c = s.ctx c := by
  rw [State.endWait_eq]; rfl

/-! ### The context table -/

theorem State.setCtx_ctx (s : State) (c d : ContextIx) (x : Context) :
    (s.setCtx c x).ctx d = if c = d then x else s.ctx d := by
  unfold State.setCtx State.ctx
  simp only [Fin.getElem_fin, Vector.getElem_set, Fin.ext_iff]

@[simp] theorem State.setCtx_ctx_self (s : State) (c : ContextIx) (x : Context) : (s.setCtx c x).ctx c = x := by
  rw [State.setCtx_ctx, if_pos rfl]

theorem mem_contexts (c : ContextIx) : c ∈ Config.contexts := by revert c; decide

theorem mem_windows (w : WindowIx) : w ∈ Config.windows := by revert w; decide

/-- Every context is FREE exactly when the check of R6 finds it so. -/
theorem State.allFree_iff (s : State) : s.allFree = true ↔ ∀ c, s.ctx c = .free := by
  unfold State.allFree
  rw [List.all_eq_true]
  constructor
  · intro h c
    have hc := h c (mem_contexts c)
    revert hc; cases s.ctx c <;> simp [Context.isFree]
  · intro h c _; rw [h c]; rfl

/-- The first of the sixteen contexts with a property, by its lowest index. -/
theorem find_contexts_eq {p : ContextIx → Bool} {c : ContextIx} (hc : p c = true) (hl : ∀ d, d < c → p d = false) :
    Config.contexts.find? p = some c := by
  have split : ∀ c : ContextIx,
      Config.contexts = Config.contexts.filter (· < c) ++ c :: Config.contexts.filter (c < ·) := by decide
  rw [split c, List.find?_append, List.find?_eq_none.2]
  · simp [hc]
  · intro x hx; simp at hx; simp [hl x hx.2]

theorem State.freeContext_eq_none {s : State} : s.freeContext = none ↔ ∀ c, (s.ctx c).isFree = false := by
  unfold State.freeContext; rw [List.find?_eq_none]
  constructor
  · intro h c; simpa using h c (mem_contexts c)
  · intro h c _; simp [h c]

/-! ### The hold buffer -/

theorem lowestUnused_eq_some {used : List Nat} {n : Nat} (hn : n ∉ used) (hl : ∀ m, m < n → m ∈ used) :
    ∀ k a, a ≤ n → n < a + k → lowestUnused used k a = some n := by
  intro k; induction k with
  | zero => intro a; omega
  | succ k ih =>
    intro a ha hk
    unfold lowestUnused
    by_cases e : a = n
    · rw [if_neg (by rw [e]; exact hn), e]
    · rw [if_pos (hl a (by omega))]; exact ih (a + 1) (by omega) (by omega)

theorem lowestUnused_eq_none {used : List Nat} : ∀ k a, (∀ m, a ≤ m → m < a + k → m ∈ used) →
    lowestUnused used k a = none := by
  intro k; induction k with
  | zero => intro a _; rfl
  | succ k ih =>
    intro a hm
    unfold lowestUnused
    rw [if_pos (hm a (by omega) (by omega))]
    exact ih (a + 1) fun m h1 h2 => hm m (by omega) (by omega)

/-- The FREE slot with the lowest number (R48). -/
theorem State.freeSlot_eq_some {s : State} {n : SlotNo} (h1 : ∀ h ∈ s.hold, h.number ≠ n)
    (h2 : ∀ m, m < n → ∃ h ∈ s.hold, h.number = m) : s.freeSlot = some n := by
  unfold State.freeSlot
  rw [lowestUnused_eq_some (n := n.val) ?_ ?_ 512 0 (by omega) (by omega)]
  · simp
  · intro hm; simp only [List.mem_map] at hm
    obtain ⟨x, hx, e⟩ := hm; exact h1 x hx (Fin.ext e)
  · intro m hm
    obtain ⟨x, hx, e⟩ := h2 ⟨m, by omega⟩ hm
    simp only [List.mem_map]; exact ⟨x, hx, by simp [e]⟩

theorem State.freeSlot_eq_none {s : State} (h : ∀ m : SlotNo, ∃ h ∈ s.hold, h.number = m) : s.freeSlot = none := by
  unfold State.freeSlot
  rw [lowestUnused_eq_none 512 0]
  intro m _ hm
  obtain ⟨x, hx, e⟩ := h ⟨m, by omega⟩
  simp only [List.mem_map]; exact ⟨x, hx, by simp [e]⟩

theorem State.filter_owner_of_slotList_nil {s : State} {c : ContextIx} (h : s.slotList c = []) :
    s.hold.filter (fun h => h.owner ≠ c) = s.hold := by
  rw [List.filter_eq_self]; intro x hx
  unfold State.slotList at h; rw [List.filter_eq_nil_iff] at h
  simpa using h x hx

/-- Discarding a context's slots takes them out of the buffer, and ends a wait on slots where any was held (R61). -/
theorem State.discard_eq (s : State) (c : ContextIx) : s.discard c = { s with
    hold := s.hold.filter fun h => h.owner ≠ c
    ingress := { s.ingress with
      wait := (if s.slotList c = [] then s.ingress.wait else s.ingress.wait.filter fun w => !w.onSlotFree) } } := by
  unfold State.discard
  by_cases h : s.slotList c = []
  · rw [if_pos h, if_pos h, State.filter_owner_of_slotList_nil h]
  · rw [if_neg h, if_neg h, State.endWait_eq]; rfl

/-! ### Failing a context -/

theorem State.failContext_of_not_open {s : State} {c : ContextIx} (r : FailReason) (l : Option Addr)
    (h : (s.ctx c).isOpen = false) : s.failContext c r l = s := by
  unfold State.failContext
  revert h; cases s.ctx c <;> simp [Context.isOpen]

/-- A failed context: FAILED with the reason and the orphan timer, its slots gone, TXN_FAILED pushed; the waiting head's wait
and walk may change with it (R27). -/
theorem State.failContext_eq {s : State} {c : ContextIx} {o : Owner} {f : Bool} {a : Word64} {t : Bool} (r : FailReason)
    (l : Option Addr) (h : s.ctx c = .opened o f a t) : ∃ w k, s.failContext c r l = State.push { s with
      contexts := s.contexts.set c (.failed o r s.timebase (some s.settings.orphanTimeout))
      hold := s.hold.filter fun h => h.owner ≠ c
      ingress := { s.ingress with wait := w, walk := k } }
      (.txnFailed c o.initiator o.window none r l (s.entryCount c)) := by
  unfold State.failContext
  simp only [h, State.discard_eq, State.endWait_eq, State.noteWalkFailure]
  cases hk : s.ingress.walk with
  | none => exact ⟨_, none, by simp only [State.setCtx]; rfl⟩
  | some k =>
    by_cases hc : c ∈ k.placed ∧ k.failed = none
    · exact ⟨_, some { k with failed := some r }, by simp only [State.setCtx, if_pos hc]; rfl⟩
    · exact ⟨_, some k, by simp only [State.setCtx, if_neg hc]; rfl⟩

/-- The same while no wait and no walk stands at the head. -/
theorem State.failContext_of_no_wait {s : State} {c : ContextIx} {o : Owner} {f : Bool} {a : Word64} {t : Bool}
    (r : FailReason) (l : Option Addr) (h : s.ctx c = .opened o f a t) (hw : s.ingress.wait = none)
    (hk : s.ingress.walk = none) : s.failContext c r l = State.push { s with
      contexts := s.contexts.set c (.failed o r s.timebase (some s.settings.orphanTimeout))
      hold := s.hold.filter fun h => h.owner ≠ c }
      (.txnFailed c o.initiator o.window none r l (s.entryCount c)) := by
  have hd : s.discard c = { s with hold := s.hold.filter fun h => h.owner ≠ c } := by
    unfold State.discard
    split
    · rename_i hn; rw [State.filter_owner_of_slotList_nil hn]
    · exact State.endWait_of_none _ hw
  unfold State.failContext
  simp only [h, hd]
  rw [State.endWait_of_none _ (by exact hw)]
  have hn : State.noteWalkFailure { s with hold := s.hold.filter fun h => h.owner ≠ c } c r =
      { s with hold := s.hold.filter fun h => h.owner ≠ c } := by
    simp [State.noteWalkFailure, hk]
  rw [hn]; rfl

/-! ### The mode -/

/-- A mode change pushes MODE_CHANGE, sets the mode, and may end a mode wait (R139, R144). -/
theorem State.setMode_eq (s : State) (m : Mode) : ∃ w, s.setMode m =
    { s.push (.modeChange m s.mode) with mode := m, ingress := { s.ingress with wait := w } } := by
  unfold State.setMode State.push
  split <;> cases m <;> simp only [State.endWait_eq] <;> exact ⟨_, rfl⟩

end Sys2Proof.Machine
end

