-- ==== Sys2Proof/Laws/Failure.lean ====
section
/-! SUPPORT. What the failure of contexts does, once and in full: one context, every OPEN context, and the contexts a journal fault
frees. -/

namespace Sys2Proof.Machine

/-! ### The head -/

/-- No event, no wait ended. -/
theorem HeadWait.filter_endedBy_none (w : Option HeadWait) :
    w.filter (fun w => !HeadWait.endedBy false (fun _ => false) false w) = w := by
  cases w with
  | none => rfl
  | some w => cases w <;> simp [HeadWait.endedBy]

/-- Where no context left OPEN the walk stands (R55). -/
theorem Ingress.afterFailure_noneLeft (g : Ingress) (r : FailReason) (f m : Bool) :
    g.afterFailure r f (fun _ => false) m =
      { g with wait := g.wait.filter fun w => !HeadWait.endedBy f (fun _ => false) m w } := by
  unfold Ingress.afterFailure
  cases g.walk <;> simp

/-- Two failures for one reason, one after the other, act on the head as one (R52, R55). -/
theorem Ingress.afterFailure_afterFailure (g : Ingress) (r : FailReason) (f1 f2 m1 m2 : Bool) (l1 l2 : ContextIx → Bool) :
    (g.afterFailure r f1 l1 m1).afterFailure r f2 l2 m2 =
      g.afterFailure r (f1 || f2) (fun c => l1 c || l2 c) (m1 || m2) := by
  unfold Ingress.afterFailure
  congr 1
  · rw [Option.filter_filter]
    congr 1; funext w
    cases w <;> simp [HeadWait.endedBy, Bool.and_left_comm, Bool.and_assoc]
  · cases g.walk with
    | none => rfl
    | some k =>
      have hor : (k.placed.any fun c => l1 c || l2 c) = (k.placed.any l1 || k.placed.any l2) := by
        induction k.placed with
        | nil => rfl
        | cons a as ih => simp only [List.any_cons, ih]; cases l1 a <;> cases l2 a <;> simp
      simp only [Option.map_some, Option.some.injEq, hor]
      generalize k.placed.any l1 = b1
      cases b1
      · simp
      · by_cases h3 : k.failed = none <;> simp [h3]

/-- The head after one context has failed (R52, R55, R60, R71). -/
theorem State.failContext_eq_afterFailure {s : State} {c : ContextIx} {o : Owner} {f : Bool} {a : Word64} {t : Bool}
    (r : FailReason) (l : Option Addr) (h : s.ctx c = .opened o f a t) : s.failContext c r l = State.push { s with
      contexts := s.contexts.set c (.failed o r s.timebase (some s.settings.orphanTimeout))
      hold := s.hold.filter fun h => h.owner ≠ c
      ingress := s.ingress.afterFailure r (decide (1 ≤ s.entryCount c)) (fun x => decide (x = c)) false }
      (.txnFailed c o.initiator o.window none r l (s.entryCount c)) := by
  have hw : (if s.slotList c = [] then s.ingress.wait else s.ingress.wait.filter fun w => !w.onSlotFree).filter
      (fun w => !w.onContext c) =
      s.ingress.wait.filter fun w => !w.endedBy (decide (1 ≤ s.entryCount c)) (fun x => decide (x = c)) false := by
    unfold State.entryCount
    split
    · rename_i e; rw [e]; congr 1; funext w; cases w <;> simp [HeadWait.onContext, HeadWait.endedBy, eq_comm]
    · rename_i e
      have : 1 ≤ (s.slotList c).length := List.length_pos_iff.2 e
      rw [Option.filter_filter]; congr 1; funext w
      cases w <;> simp [HeadWait.onContext, HeadWait.onSlotFree, HeadWait.endedBy, this]
  unfold State.failContext
  simp only [h, State.discard_eq, State.endWait_eq, State.noteWalkFailure, hw]
  unfold Ingress.afterFailure
  cases hk : s.ingress.walk with
  | none => simp only [State.setCtx]; rfl
  | some k =>
    have hp : (k.placed.any fun x => decide (x = c)) = decide (c ∈ k.placed) := by
      rw [Bool.eq_iff_iff]; simp
    simp only [State.setCtx, hp, decide_eq_true_eq, Option.map_some]
    by_cases hc : c ∈ k.placed ∧ k.failed = none
    · simp only [if_pos hc]
    · simp only [if_neg hc]

/-! ### Every OPEN context -/

theorem State.push_with (s : State) (b : EventBody) (v : Vector Context 16) (h : List HeldSlot) (g : Ingress) :
      { s.push b with contexts := v, hold := h, ingress := g } =
      State.push { s with contexts := v, hold := h, ingress := g } b := by
  unfold State.push
  by_cases hr : s.events.entries.length < Config.eventDepth
  · simp only [if_pos hr]
  · simp only [if_neg hr]

/-- The TXN_FAILED event of an OPEN context that fails for a cause with no address (R27). -/
def State.openFailure (s : State) (r : FailReason) (c : ContextIx) : Option EventBody :=
  match s.ctx c with
  | .opened o _ _ _ => some (.txnFailed c o.initiator o.window none r none (s.entryCount c))
  | _ => none

theorem State.entryCount_of_filter {s t : State} {c d : ContextIx} (h : t.hold = s.hold.filter fun h => h.owner ≠ c)
    (hd : d ≠ c) : t.entryCount d = s.entryCount d := by
  unfold State.entryCount State.slotList
  rw [h, List.filter_filter]
  congr 2; funext x
  by_cases hx : x.owner = d <;> simp [hx, hd]

/-- The failure of the OPEN ones of a list of contexts (R27). -/
theorem State.failList_eq (r : FailReason) : ∀ (l : List ContextIx) (s : State), l.Nodup →
    ∃ v : Vector Context 16,
      (∀ x : ContextIx, v[x] = if x ∈ l then (s.ctx x).failedBy r s.timebase s.settings.orphanTimeout else s.ctx x) ∧
      l.foldl (fun s c => s.failContext c r none) s = State.pushAll
        { s with
          contexts := v
          hold := s.hold.filter fun h => !(decide (h.owner ∈ l) && (s.ctx h.owner).isOpen)
          ingress := s.ingress.afterFailure r (s.hold.any fun h => decide (h.owner ∈ l) && (s.ctx h.owner).isOpen)
            (fun x => decide (x ∈ l) && (s.ctx x).isOpen) false }
        (l.filterMap (s.openFailure r)) := by
  intro l
  induction l with
  | nil =>
    intro s _
    refine ⟨s.contexts, fun x => by simp; rfl, ?_⟩
    have : s.ingress.afterFailure r false (fun _ => false) false = s.ingress := by
      rw [Ingress.afterFailure_noneLeft, HeadWait.filter_endedBy_none]
    have h2 : (s.hold.any fun _ => false) = false := by simp
    have h3 : (s.hold.filter fun _ => true) = s.hold := by simp
    simp only [List.not_mem_nil, decide_false, Bool.false_and, Bool.not_false, h2, h3, this, State.pushAll, List.foldl_nil,
      List.filterMap_nil]
  | cons c l ih =>
    intro s hn
    obtain ⟨hc, hl⟩ := List.nodup_cons.1 hn
    by_cases ho : (s.ctx c).isOpen = true
    · obtain ⟨o, f, a, t, hx⟩ : ∃ o f a t, s.ctx c = .opened o f a t := by
        revert ho; cases s.ctx c <;> simp [Context.isOpen]
      have hff : s.openFailure r c = some (.txnFailed c o.initiator o.window none r none (s.entryCount c)) := by
        unfold State.openFailure; rw [hx]
      have hstep := State.failContext_eq_afterFailure r none hx
      generalize hu : s.failContext c r none = u at hstep
      obtain ⟨v, hv, he⟩ := ih u hl
      have hctx : ∀ x : ContextIx, x ≠ c → u.ctx x = s.ctx x := by
        intro x hxc; rw [hstep, State.push_ctx]; show (s.setCtx c _).ctx x = _; rw [State.setCtx_ctx, if_neg (Ne.symm hxc)]
      have hcc : u.ctx c = .failed o r s.timebase (some s.settings.orphanTimeout) := by
        rw [hstep, State.push_ctx]; show (s.setCtx c _).ctx c = _; rw [State.setCtx_ctx, if_pos rfl]
      have hset : u.settings = s.settings := by rw [hstep]; simp
      have htime : u.timebase = s.timebase := by rw [hstep]; simp
      have hhold : u.hold = s.hold.filter fun h => h.owner ≠ c := by rw [hstep]; simp
      have hing : u.ingress = s.ingress.afterFailure r (decide (1 ≤ s.entryCount c)) (fun x => decide (x = c)) false := by
        rw [hstep]; simp
      have hp : ∀ x : ContextIx, (decide (x ∈ l) && (u.ctx x).isOpen) = (decide (x ∈ l) && (s.ctx x).isOpen) := by
        intro x
        by_cases hxc : x = c
        · subst hxc; simp [hc]
        · rw [hctx x hxc]
      have hq : ∀ x : ContextIx, (decide (x ∈ c :: l) && (s.ctx x).isOpen) =
          (decide (x = c) || (decide (x ∈ l) && (s.ctx x).isOpen)) := by
        intro x
        by_cases hxc : x = c
        · subst hxc; simp [ho]
        · simp [hxc]
      have hev : l.filterMap (u.openFailure r) = l.filterMap (s.openFailure r) := by
        refine List.filterMap_congr fun d hd => ?_
        have hdc : d ≠ c := fun e => hc (e ▸ hd)
        unfold State.openFailure
        rw [hctx d hdc, State.entryCount_of_filter hhold hdc]
      refine ⟨v, fun x => ?_, ?_⟩
      · rw [hv x, hset, htime]
        by_cases hxc : x = c
        · subst hxc; simp [hc, hcc, hx, Context.failedBy]
        · simp [hxc, hctx x hxc]
      · have hH : (u.hold.filter fun h => !(decide (h.owner ∈ l) && (u.ctx h.owner).isOpen)) =
            s.hold.filter fun h => !(decide (h.owner ∈ c :: l) && (s.ctx h.owner).isOpen) := by
          rw [hhold, List.filter_filter]
          refine List.filter_congr fun h _ => ?_
          rw [hp, hq]; simp [Bool.and_comm]
        have hI : u.ingress.afterFailure r (u.hold.any fun h => decide (h.owner ∈ l) && (u.ctx h.owner).isOpen)
              (fun x => decide (x ∈ l) && (u.ctx x).isOpen) false =
            s.ingress.afterFailure r (s.hold.any fun h => decide (h.owner ∈ c :: l) && (s.ctx h.owner).isOpen)
              (fun x => decide (x ∈ c :: l) && (s.ctx x).isOpen) false := by
          rw [hing, Ingress.afterFailure_afterFailure]
          congr 1
          · rw [Bool.eq_iff_iff]
            simp only [hp, hq, hhold, Bool.or_eq_true, decide_eq_true_eq, List.any_eq_true, List.mem_filter, State.entryCount,
              Nat.succ_le_iff, List.length_pos_iff_exists_mem, State.slotList]
            refine ⟨fun h => h.elim (fun ⟨x, hx⟩ => ⟨x, hx.1, .inl hx.2⟩) fun ⟨x, hx⟩ => ⟨x, hx.1.1, .inr hx.2⟩, ?_⟩
            rintro ⟨x, hxm, hxc | hxo⟩
            · exact .inl ⟨x, hxm, hxc⟩
            · exact .inr ⟨x, ⟨hxm, by simpa using fun e : x.owner = c => hc (by simp_all)⟩, hxo⟩
          · funext x; rw [hp, hq]
        rw [List.foldl_cons, hu, he, hH, hI, hev, List.filterMap_cons, hff]
        show _ = State.pushAll (State.push _ _) _
        rw [hstep, State.push_with]
    · obtain ⟨v, hv, he⟩ := ih s hl
      have hmem : ∀ x : ContextIx, (decide (x ∈ c :: l) && (s.ctx x).isOpen) = (decide (x ∈ l) && (s.ctx x).isOpen) := by
        intro x
        by_cases hx : x = c
        · subst hx; simp [ho]
        · simp [hx]
      have hno : ∀ o f a t, s.ctx c ≠ .opened o f a t := by
        intro o f a t h; rw [h] at ho; exact ho rfl
      refine ⟨v, fun x => ?_, ?_⟩
      · rw [hv x]
        by_cases hx : x = c
        · subst hx
          simp only [hc, if_false, List.mem_cons, true_or, if_true]
          cases h : s.ctx x <;> first | rfl | exact absurd h (hno _ _ _ _)
        · simp [hx]
      · have hf : s.openFailure r c = none := by
          unfold State.openFailure
          cases h : s.ctx c <;> first | rfl | exact absurd h (hno _ _ _ _)
        simp only [List.foldl_cons, State.failContext_of_not_open r none (by simpa using ho), he, hmem, List.filterMap_cons, hf]

/-- Every OPEN context fails, and nothing else changes: their slots go, their TXN_FAILED events are pushed in ascending index, and
the head's wait and walk follow (R37, R38, R39, R52, R55, R60, R71). -/
theorem State.failOpen_eq (s : State) (r : FailReason) : ∃ v : Vector Context 16,
    (∀ x : ContextIx, v[x] = (s.ctx x).failedBy r s.timebase s.settings.orphanTimeout) ∧
    s.failOpen r = State.pushAll
      { s with
        contexts := v
        hold := s.hold.filter fun h => !(s.ctx h.owner).isOpen
        ingress := s.ingress.afterFailure r (s.hold.any fun h => (s.ctx h.owner).isOpen) (fun x => (s.ctx x).isOpen) false }
      (s.openFailures r) := by
  obtain ⟨v, hv, he⟩ := State.failList_eq r Config.contexts s (by decide)
  simp only [mem_contexts, decide_true, Bool.true_and, if_true] at hv he
  exact ⟨v, hv, he⟩

/-! ### The contexts a journal fault frees -/

theorem State.push_freed (s : State) (b : EventBody) (v : Vector Context 16) (h : List HeldSlot) (g : Ingress)
    (out : List Answer) : { s.push b with contexts := v, hold := h, ingress := g, upOut := out } =
      State.push { s with contexts := v, hold := h, ingress := g, upOut := out } b := by
  unfold State.push
  by_cases hr : s.events.entries.length < Config.eventDepth
  · simp only [if_pos hr]
  · simp only [if_neg hr]

/-- The TXN_FAILED event of a context that a journal fault frees (R38). -/
def State.sealingFailure (s : State) (c : ContextIx) : Option EventBody :=
  match s.ctx c with
  | .queued o _ _ _ => some (.txnFailed c o.initiator o.window none .journal none (s.entryCount c))
  | .writing o _ _ pl _ => some (.txnFailed c o.initiator o.window (some pl.sequence) .journal none (s.entryCount c))
  | _ => none

/-- One context that a journal fault frees: its slots go, its COMMIT is answered FAILED/JOURNAL and TXN_FAILED is pushed (R38). -/
theorem State.freeOnFault_eq {s : State} {c : ContextIx} (h : (s.ctx c).isQueued = true ∨ (s.ctx c).isWriting = true) :
    ∃ b, s.sealingFailure c = some b ∧ s.freeOnFault c = State.push { s with
      contexts := s.contexts.set c .free
      hold := s.hold.filter fun h => h.owner ≠ c
      ingress := s.ingress.afterFailure .journal (decide (1 ≤ s.entryCount c)) (fun _ => false) false
      upOut := s.upOut ++ ((s.ctx c).pending?.map fun p => (⟨p, .failed (.context .journal)⟩ : Answer)).toList } b := by
  have hi : (if s.slotList c = [] then s.ingress.wait else s.ingress.wait.filter fun w => !w.onSlotFree) =
      s.ingress.wait.filter fun w => !w.endedBy (decide (1 ≤ s.entryCount c)) (fun _ => false) false := by
    unfold State.entryCount
    split
    · rename_i e; rw [e]; cases s.ingress.wait with
      | none => rfl
      | some w => cases w <;> simp [HeadWait.endedBy, Option.filter]
    · rename_i e
      have : 1 ≤ (s.slotList c).length := List.length_pos_iff.2 e
      congr 1; funext w; cases w <;> simp [HeadWait.onSlotFree, HeadWait.endedBy, this]
  rw [Ingress.afterFailure_noneLeft]
  unfold State.freeOnFault State.sealingFailure
  revert h
  cases hx : s.ctx c with
  | queued o f m p =>
    intro _
    refine ⟨_, rfl, ?_⟩
    simp only [State.discard_eq, hi]
    cases p <;> simp [State.answerPending, State.answer, State.setCtx, Context.pending?]
  | writing o f m pl p =>
    intro _
    refine ⟨_, rfl, ?_⟩
    simp only [State.discard_eq, hi]
    cases p <;> simp [State.answerPending, State.answer, State.setCtx, Context.pending?]
  | _ => simp [Context.isQueued, Context.isWriting]

/-- The contexts of a list that a journal fault frees (R38). -/
theorem State.freeList_eq : ∀ (l : List ContextIx) (s : State), l.Nodup →
    (∀ c ∈ l, (s.ctx c).isQueued = true ∨ (s.ctx c).isWriting = true) →
    ∃ v : Vector Context 16, (∀ x : ContextIx, v[x] = if x ∈ l then .free else s.ctx x) ∧
      l.foldl State.freeOnFault s = State.pushAll
        { s with
          contexts := v
          hold := s.hold.filter fun h => !decide (h.owner ∈ l)
          ingress := s.ingress.afterFailure .journal (s.hold.any fun h => decide (h.owner ∈ l)) (fun _ => false) false
          upOut := s.upOut ++ l.filterMap fun c =>
            (s.ctx c).pending?.map fun p => (⟨p, .failed (.context .journal)⟩ : Answer) }
        (l.filterMap s.sealingFailure) := by
  intro l
  induction l with
  | nil =>
    intro s _ _
    refine ⟨s.contexts, fun x => by simp; rfl, ?_⟩
    have h1 : s.ingress.afterFailure .journal false (fun _ => false) false = s.ingress := by
      rw [Ingress.afterFailure_noneLeft, HeadWait.filter_endedBy_none]
    have h2 : (s.hold.any fun _ => false) = false := by simp
    have h3 : (s.hold.filter fun _ => true) = s.hold := by simp
    simp only [List.not_mem_nil, decide_false, Bool.not_false, h2, h3, h1, State.pushAll, List.foldl_nil, List.filterMap_nil,
      List.append_nil]
  | cons c l ih =>
    intro s hn hall
    obtain ⟨hc, hl⟩ := List.nodup_cons.1 hn
    obtain ⟨b, hb, hstep⟩ := State.freeOnFault_eq (hall c (by simp))
    generalize hu : s.freeOnFault c = u at hstep
    have hctx : ∀ x : ContextIx, x ≠ c → u.ctx x = s.ctx x := by
      intro x hxc; rw [hstep, State.push_ctx]; show (s.setCtx c _).ctx x = _; rw [State.setCtx_ctx, if_neg (Ne.symm hxc)]
    have hcc : u.ctx c = .free := by
      rw [hstep, State.push_ctx]; show (s.setCtx c _).ctx c = _; rw [State.setCtx_ctx, if_pos rfl]
    have hne : ∀ d ∈ l, d ≠ c := fun d hd e => hc (e ▸ hd)
    obtain ⟨v, hv, he⟩ := ih u hl fun d hd => by rw [hctx d (hne d hd)]; exact hall d (by simp [hd])
    have hhold : u.hold = s.hold.filter fun h => h.owner ≠ c := by rw [hstep]; simp
    have hing : u.ingress = s.ingress.afterFailure .journal (decide (1 ≤ s.entryCount c)) (fun _ => false) false := by
      rw [hstep]; simp
    have hout : u.upOut = s.upOut ++
        ((s.ctx c).pending?.map fun p => (⟨p, .failed (.context .journal)⟩ : Answer)).toList := by rw [hstep]; simp
    have hev : l.filterMap u.sealingFailure = l.filterMap s.sealingFailure := by
      refine List.filterMap_congr fun d hd => ?_
      unfold State.sealingFailure
      rw [hctx d (hne d hd), State.entryCount_of_filter hhold (hne d hd)]
    refine ⟨v, fun x => ?_, ?_⟩
    · rw [hv x]
      by_cases hxc : x = c
      · subst hxc; simp [hc, hcc]
      · simp [hxc, hctx x hxc]
    · have hH : (u.hold.filter fun h => !decide (h.owner ∈ l)) = s.hold.filter fun h => !decide (h.owner ∈ c :: l) := by
        rw [hhold, List.filter_filter]
        refine List.filter_congr fun h _ => ?_
        simp [Bool.and_comm]
      have hI : u.ingress.afterFailure .journal (u.hold.any fun h => decide (h.owner ∈ l)) (fun _ => false) false =
          s.ingress.afterFailure .journal (s.hold.any fun h => decide (h.owner ∈ c :: l)) (fun _ => false) false := by
        rw [hing, Ingress.afterFailure_afterFailure]
        congr 1
        rw [Bool.eq_iff_iff]
        simp only [hhold, Bool.or_eq_true, decide_eq_true_eq, List.any_eq_true, List.mem_filter, State.entryCount,
          Nat.succ_le_iff, List.length_pos_iff_exists_mem, State.slotList, List.mem_cons]
        refine ⟨fun h => h.elim (fun ⟨x, hx⟩ => ⟨x, hx.1, .inl hx.2⟩) fun ⟨x, hx⟩ => ⟨x, hx.1.1, .inr hx.2⟩, ?_⟩
        rintro ⟨x, hxm, hxc | hxo⟩
        · exact .inl ⟨x, hxm, hxc⟩
        · exact .inr ⟨x, ⟨hxm, by simpa using hne _ hxo⟩, hxo⟩
      have hO : u.upOut ++ l.filterMap (fun d => (u.ctx d).pending?.map fun p => (⟨p, .failed (.context .journal)⟩ : Answer)) =
          s.upOut ++ (c :: l).filterMap fun d =>
            (s.ctx d).pending?.map fun p => (⟨p, .failed (.context .journal)⟩ : Answer) := by
        rw [hout, List.append_assoc, List.filterMap_congr fun d hd => by rw [hctx d (hne d hd)], List.filterMap_cons]
        cases (s.ctx c).pending? <;> simp
      have hE : (c :: l).filterMap s.sealingFailure = b :: l.filterMap s.sealingFailure := by rw [List.filterMap_cons, hb]
      rw [List.foldl_cons, hu, he, hH, hI, hO, hev, hE]
      show _ = State.pushAll (State.push _ _) _
      rw [hstep, State.push_freed]

end Sys2Proof.Machine
end

