-- ==== Sys2Proof/Laws/Formats.lean ====
section
/-! SUPPORT. Byte order, lengths and fields of the memory formats. -/

namespace Sys2Proof.Machine

/-! ### Little-endian numbers -/

@[simp] theorem leBytes_length (n v : Nat) : (leBytes n v).length = n := by
  induction n generalizing v with
  | zero => rfl
  | succ n ih => simp [leBytes, ih]

/-- The bytes of a number spell it, modulo the room they have. -/
theorem leNat_leBytes (n v : Nat) : leNat (leBytes n v) = v % 256 ^ n := by
  induction n generalizing v with
  | zero => simp [leBytes, leNat, Nat.mod_one]
  | succ n ih =>
    simp only [leBytes, leNat, ih, BitVec.toNat_ofNat]
    have e : v % 256 ^ (n + 1) = v % 256 + 256 * (v / 256 % 256 ^ n) := by
      rw [Nat.pow_succ, Nat.mul_comm, Nat.mod_mul]
    rw [e]

theorem leNat_leBytes_of_lt {n v : Nat} (h : v < 256 ^ n) : leNat (leBytes n v) = v := by
  rw [leNat_leBytes, Nat.mod_eq_of_lt h]

/-- A field that lies behind a prefix is read from the rest. -/
theorem field_append_right {pre : List Byte} {o : Nat} (rest : List Byte) (n : Nat) (h : pre.length ≤ o) :
    field (pre ++ rest) o n = field rest (o - pre.length) n := by
  unfold field
  rw [List.drop_append, List.drop_eq_nil_of_le h, List.nil_append]

/-- The first field of bytes that begin with the bytes of a number is that number. -/
theorem field_leBytes_append {n v : Nat} (rest : List Byte) (h : v < 256 ^ n) : field (leBytes n v ++ rest) 0 n = v := by
  unfold field
  rw [List.drop_zero, List.take_left' (leBytes_length n v), leNat_leBytes_of_lt h]

/-! ### Lines -/

@[simp] theorem lineBytesAt_length (p : Nat) (bs : List (Option Byte)) : (lineBytesAt p bs).length = 64 := by
  simp [lineBytesAt]; omega

@[simp] theorem cutToRange_length (p n : Nat) (b : LineBytes) : (cutToRange p n b).length = 64 := by
  simp [cutToRange]

@[simp] theorem emptyLine_length : emptyLine.length = 64 := by simp [emptyLine]

theorem layOver_length {u t : LineBytes} (hu : u.length = 64) (ht : t.length = 64) : (layOver u t).length = 64 := by
  simp [layOver, hu, ht]

/-- A byte of the upper line where it has one, and else of the lower (R47). -/
theorem layOver_getElem? {u t : LineBytes} (k : Nat) (hu : u.length = 64) (ht : t.length = 64) (hk : k < 64) :
    (layOver u t)[k]? = some (t[k]'(by omega) <|> u[k]'(by omega)) := by
  simp [layOver, hu, ht, hk]

theorem dataOf_length (b : LineBytes) : (dataOf b).length = b.length := by simp [dataOf]

/-- A mask and its data give the bytes back (R87, R156). -/
theorem unmask_maskOf (b : LineBytes) : unmask (maskOf b) (dataOf b) = b := by
  induction b with
  | nil => rfl
  | cons x xs ih =>
    cases x with
    | none =>
      simp only [maskOf, dataOf, List.map_cons, unmask, Option.isSome_none, Bool.false_eq_true, if_false, Nat.zero_add]
      rw [if_neg (by omega), Nat.mul_div_cancel_left _ (by omega)]
      exact congrArg _ ih
    | some v =>
      simp only [maskOf, dataOf, List.map_cons, unmask, Option.isSome_some, if_true, Option.getD_some]
      rw [if_pos (by omega), show (1 + 2 * maskOf xs) / 2 = maskOf xs by omega]
      exact congrArg _ ih

theorem maskOf_lt (b : LineBytes) : maskOf b < 2 ^ b.length := by
  induction b with
  | nil => simp [maskOf]
  | cons x xs ih => simp only [maskOf, List.length_cons, Nat.pow_succ]; split <;> omega

/-! ### Records and anchors -/

@[simp] theorem recordHeader_length (e : Word32) (o : Owner) (f : Bool) (m : CommitMarker) (q : Word64) (n : Nat) :
    (recordHeader e o f m q n).length = 64 := by
  simp [recordHeader]

@[simp] theorem recordTrailer_length (q : Word64) (n : Nat) (body : List Byte) : (recordTrailer q n body).length = 32 := by
  simp [recordTrailer]

theorem recordEntry_length {h : HeldSlot} (hb : h.bytes.length = 64) : (recordEntry h).length = 80 := by
  simp [recordEntry, dataOf_length, hb]

@[simp] theorem padBytes_length (n : Nat) (q : Word64) : (padBytes n q).length = 16 := by simp [padBytes]

@[simp] theorem anchorBytes_length (e : Word32) (g : Word64) (l : Nat) (b : Addr) (t : Nat) (q : Word64) :
    (anchorBytes e g l b t q).length = 128 := by
  simp [anchorBytes, anchorBody]

end Sys2Proof.Machine
end

