-- ==== Sys2Proof/Laws/Head.lean ====
section
/-! SUPPORT. The evaluation of the ingress head, cut at the steps of R165. -/

namespace Sys2Proof.Machine

/-! ### Which step of R165 ends the evaluation -/

theorem exec_headEvaluation_of_head {s : State} {r : UpRequest} (h : s.HeadIs r) :
    exec .headEvaluation s = .next (s.evaluate r) := by
  obtain ⟨h1, h2, h3⟩ := h
  show Host.Outcome.next s.evaluateHead = _
  unfold State.evaluateHead
  cases hq : s.ingress.queue with
  | nil => simp [hq] at h1
  | cons a b => simp [hq] at h1; subst h1; simp [h2, h3]

/-- A marker that passed R13 is carried out outside INIT and RECOVERING (R15, R165). -/
theorem State.evaluate_marker {s : State} {r : UpRequest} {w : WindowIx} {a : Addr} {cmd : MarkerCommand} {v : Word64}
    (hp : passesAddressSpace r = false) (hm : s.markerCheck r = .marker w a cmd v) (he : s.mode.evaluates = true) :
    s.evaluate r = (s.marker ⟨requesterOf r, w, a, v⟩ cmd).leaveHead := by
  unfold State.evaluate
  rw [if_neg (by simp [hp])]
  simp only [hm]
  cases h1 : s.firstJournalPiece r <;> cases h2 : s.mode <;> simp_all [Mode.evaluates]

/-- A write that touches no marker word enters the walk (R165). -/
theorem State.evaluate_write {s : State} {r : UpRequest} {bs : List (Option Byte)} (hp : passesAddressSpace r = false)
    (hk : r.kind = .write bs) (hm : s.markerCheck r = .none)
    (he : s.mode.evaluates = true ∨ s.firstJournalPiece r = none) : s.evaluate r = s.evaluateWrite r := by
  unfold State.evaluate
  rw [if_neg (by simp [hp])]
  simp only [hm, hk]
  rcases he with he | he
  · cases h1 : s.firstJournalPiece r <;> cases h2 : s.mode <;> simp_all [Mode.evaluates]
  · simp [he]

/-- A read is taken by the read forwarder, or handed over (R165). -/
theorem State.evaluate_read {s : State} {r : UpRequest} {n : Nat} (hp : passesAddressSpace r = false)
    (hk : r.kind = .read n) (he : s.mode.evaluates = true ∨ s.firstJournalPiece r = none) :
    s.evaluate r = s.evaluateRead r := by
  have hm : s.markerCheck r = .none := by simp [State.markerCheck, hk]
  unfold State.evaluate
  rw [if_neg (by simp [hp])]
  simp only [hm, hk]
  rcases he with he | he
  · cases h1 : s.firstJournalPiece r <;> cases h2 : s.mode <;> simp_all [Mode.evaluates]
  · simp [he]

/-! ### Pieces within one line (R164) -/

theorem cutLines_of_one_line {α : Type} {k a : Nat} {x : List α} (hk : 1 ≤ k) (h1 : 1 ≤ x.length)
    (h : a % 64 + x.length ≤ 64) : cutLines k a x = [(a, x)] := by
  obtain ⟨k, rfl⟩ := Nat.exists_eq_add_of_le hk
  rw [Nat.add_comm]
  cases x with
  | nil => simp at h1
  | cons b bs =>
    unfold cutLines
    have hd : (b :: bs).drop (64 - a % 64) = [] := List.drop_eq_nil_of_le (by omega)
    rw [hd, List.take_of_length_le (by omega)]
    cases k <;> simp [cutLines]

theorem pieces_of_one_line {r : UpRequest} {bs : List (Option Byte)} (hk : r.kind = .write bs) (h1 : 1 ≤ bs.length)
    (h : posOf r.addr + bs.length ≤ 64) : pieces r = [(r.addr, bs)] := by
  unfold pieces
  have hl : r.length = bs.length := by simp [UpRequest.length, hk]
  rw [hl]; simp only [requestBytes, hk]
  rw [cutLines_of_one_line h1 h1 h]; simp

/-! ### What the walk can change (R54) -/

/-- The walk of a data write changes contexts, the hold buffer and events, and of the ingress side the wait and the walk. -/
def State.WalkFrame (s t : State) : Prop :=
  ∃ contexts hold events w k, t = { s with
    contexts := contexts, hold := hold, events := events, ingress := { s.ingress with wait := w, walk := k } }

theorem State.WalkFrame.refl (s : State) : s.WalkFrame s :=
  ⟨s.contexts, s.hold, s.events, s.ingress.wait, s.ingress.walk, rfl⟩

theorem State.WalkFrame.trans {s t u : State} (h : s.WalkFrame t) (g : t.WalkFrame u) : s.WalkFrame u := by
  obtain ⟨_, _, _, _, _, rfl⟩ := h
  obtain ⟨_, _, _, _, _, rfl⟩ := g
  exact ⟨_, _, _, _, _, rfl⟩

theorem State.walkFrame_failContext (s : State) (c : ContextIx) (r : FailReason) (l : Option Addr) :
    s.WalkFrame (s.failContext c r l) := by
  cases hc : s.ctx c with
  | opened o f a t =>
    obtain ⟨w, k, e⟩ := State.failContext_eq r l hc
    rw [e, State.push_eq]; exact ⟨_, _, _, _, _, rfl⟩
  | _ => rw [State.failContext_of_not_open r l (by rw [hc]; rfl)]; exact .refl s

theorem State.walkFrame_touch (s : State) (c : ContextIx) : s.WalkFrame (s.touch c) := by
  unfold State.touch
  cases s.ctx c <;> exact ⟨_, _, _, _, _, rfl⟩

theorem State.walkFrame_settlePiece (s : State) (i : Initiator) (p : Addr × List (Option Byte)) :
    s.WalkFrame (s.settlePiece i p).2 := by
  have hnew : ∀ c w line bytes, s.WalkFrame (s.placeNew c w line bytes).2 := by
    intro c w line bytes
    unfold State.placeNew
    split
    · exact s.walkFrame_failContext _ _ _
    · split
      · exact State.WalkFrame.trans (⟨_, _, _, _, _, rfl⟩ : s.WalkFrame (s.allocateSlot _ _ _ _))
          (State.walkFrame_touch _ _)
      · split
        · exact s.walkFrame_failContext _ _ _
        · exact .refl s
  have hplace : ∀ c w line bytes, s.WalkFrame (s.placePiece c w line bytes).2 := by
    intro c w line bytes
    unfold State.placePiece
    split
    · split
      · exact State.WalkFrame.trans (⟨_, _, _, _, _, rfl⟩ : s.WalkFrame (s.mergeSlot _ _)) (State.walkFrame_touch _ _)
      · split
        · exact s.walkFrame_failContext _ _ _
        · exact hnew _ _ _ _
    · exact hnew _ _ _ _
  simp only [State.settlePiece]
  split
  · exact .refl s
  · split
    · exact .refl s
    · split
      · exact hplace _ _ _ _
      · exact .refl s
    · split <;> exact .refl s

/-- Everything a walk can do to the state. -/
theorem State.walkFrame_walkPieces (i : Initiator) : ∀ (ps : List (Addr × List (Option Byte))) (k : Walk) (s : State),
    s.WalkFrame (walkPieces i ps k s).2.2 := by
  intro ps; induction ps with
  | nil => intro k s; exact .refl s
  | cons p ps ih =>
    intro k s
    have hp := s.walkFrame_settlePiece i p
    unfold walkPieces
    split <;> rename_i h <;> rw [h] at hp
    · exact hp.trans (ih _ _)
    · exact hp.trans (ih _ _)
    · exact hp.trans (ih _ _)
    · exact hp
    · exact hp

end Sys2Proof.Machine
end

