-- ==== Sys2Proof/Laws/PerInstr.lean ====
section
/-! SUPPORT. What each command's well-formedness says of its operands, one lemma per command. -/

namespace Sys2Proof.Laws

/-- The bounds the spec sets to a command's operands: a request's length (R161) and a response's data (9.4); every other operand
may take every value of its type. -/
def OperandBounds.Bounds (i : Instr) : Prop :=
  (∀ r, i = .upstreamRequest r → 1 ≤ r.length ∧ r.length ≤ 256) ∧
    ∀ t r, (i = .recordWriteResponse t r ∨ i = .recordFlushResponse t r ∨ i = .releaseWriteResponse t r ∨
      i = .homeFlushResponse t r ∨ i = .anchorWriteResponse t r ∨ i = .anchorFlushResponse t r ∨ i = .readResponse t r ∨
      i = .ingressResponse t r ∨ i = .lateResponseDiscard t r ∨ i = .anchorReadResponse t r ∨ i = .scanReadResponse t r ∨
      i = .recordReadResponse t r ∨ i = .replayWriteResponse t r) → r.size ≤ 256

/-- A command is well-formed exactly when its operands lie within their bounds. -/
def OperandBounds.Statement (i : Instr) : Prop :=
  i.WellFormed = true ↔ OperandBounds.Bounds i

theorem OperandBounds.coldReset : OperandBounds.Statement .coldReset := by
  simp [OperandBounds.Statement, OperandBounds.Bounds, Instr.WellFormed]

theorem OperandBounds.pfwarnAsserted : OperandBounds.Statement .pfwarnAsserted := by
  simp [OperandBounds.Statement, OperandBounds.Bounds, Instr.WellFormed]

theorem OperandBounds.pfwarnDeasserted : OperandBounds.Statement .pfwarnDeasserted := by
  simp [OperandBounds.Statement, OperandBounds.Bounds, Instr.WellFormed]

theorem OperandBounds.upstreamRequest (request : UpRequest) : OperandBounds.Statement (.upstreamRequest request) := by
  simp [OperandBounds.Statement, OperandBounds.Bounds, Instr.WellFormed, UpRequest.WellFormed]

theorem OperandBounds.headEvaluation : OperandBounds.Statement .headEvaluation := by
  simp [OperandBounds.Statement, OperandBounds.Bounds, Instr.WellFormed]

theorem OperandBounds.idleTimerExpiry (context : ContextIx) : OperandBounds.Statement (.idleTimerExpiry context) := by
  simp [OperandBounds.Statement, OperandBounds.Bounds, Instr.WellFormed]

theorem OperandBounds.orphanTimerExpiry (context : ContextIx) : OperandBounds.Statement (.orphanTimerExpiry context) := by
  simp [OperandBounds.Statement, OperandBounds.Bounds, Instr.WellFormed]

theorem OperandBounds.stallTimerExpiry : OperandBounds.Statement .stallTimerExpiry := by
  simp [OperandBounds.Statement, OperandBounds.Bounds, Instr.WellFormed]

theorem OperandBounds.takeCommitHead : OperandBounds.Statement .takeCommitHead := by
  simp [OperandBounds.Statement, OperandBounds.Bounds, Instr.WellFormed]

theorem OperandBounds.arbiterGrant : OperandBounds.Statement .arbiterGrant := by
  simp [OperandBounds.Statement, OperandBounds.Bounds, Instr.WellFormed]

theorem OperandBounds.recordWriteResponse (tag : XferTag) (response : DownResponse) : OperandBounds.Statement (.recordWriteResponse tag response) := by
  simp [OperandBounds.Statement, OperandBounds.Bounds, Instr.WellFormed, DownResponse.WellFormed]

theorem OperandBounds.recordFlushResponse (tag : XferTag) (response : DownResponse) : OperandBounds.Statement (.recordFlushResponse tag response) := by
  simp [OperandBounds.Statement, OperandBounds.Bounds, Instr.WellFormed, DownResponse.WellFormed]

theorem OperandBounds.releaseTakeHead : OperandBounds.Statement .releaseTakeHead := by
  simp [OperandBounds.Statement, OperandBounds.Bounds, Instr.WellFormed]

theorem OperandBounds.releaseWriteResponse (tag : XferTag) (response : DownResponse) : OperandBounds.Statement (.releaseWriteResponse tag response) := by
  simp [OperandBounds.Statement, OperandBounds.Bounds, Instr.WellFormed, DownResponse.WellFormed]

theorem OperandBounds.retirement : OperandBounds.Statement .retirement := by
  simp [OperandBounds.Statement, OperandBounds.Bounds, Instr.WellFormed]

theorem OperandBounds.anchorUpdateStart : OperandBounds.Statement .anchorUpdateStart := by
  simp [OperandBounds.Statement, OperandBounds.Bounds, Instr.WellFormed]

theorem OperandBounds.homeFlushResponse (tag : XferTag) (response : DownResponse) : OperandBounds.Statement (.homeFlushResponse tag response) := by
  simp [OperandBounds.Statement, OperandBounds.Bounds, Instr.WellFormed, DownResponse.WellFormed]

theorem OperandBounds.anchorWriteResponse (tag : XferTag) (response : DownResponse) : OperandBounds.Statement (.anchorWriteResponse tag response) := by
  simp [OperandBounds.Statement, OperandBounds.Bounds, Instr.WellFormed, DownResponse.WellFormed]

theorem OperandBounds.anchorFlushResponse (tag : XferTag) (response : DownResponse) : OperandBounds.Statement (.anchorFlushResponse tag response) := by
  simp [OperandBounds.Statement, OperandBounds.Bounds, Instr.WellFormed, DownResponse.WellFormed]

theorem OperandBounds.drainComplete : OperandBounds.Statement .drainComplete := by
  simp [OperandBounds.Statement, OperandBounds.Bounds, Instr.WellFormed]

theorem OperandBounds.readResponse (tag : XferTag) (response : DownResponse) : OperandBounds.Statement (.readResponse tag response) := by
  simp [OperandBounds.Statement, OperandBounds.Bounds, Instr.WellFormed, DownResponse.WellFormed]

theorem OperandBounds.ingressResponse (tag : XferTag) (response : DownResponse) : OperandBounds.Statement (.ingressResponse tag response) := by
  simp [OperandBounds.Statement, OperandBounds.Bounds, Instr.WellFormed, DownResponse.WellFormed]

theorem OperandBounds.lateResponseDiscard (tag : XferTag) (response : DownResponse) : OperandBounds.Statement (.lateResponseDiscard tag response) := by
  simp [OperandBounds.Statement, OperandBounds.Bounds, Instr.WellFormed, DownResponse.WellFormed]

theorem OperandBounds.responseTimerExpiry (tag : XferTag) : OperandBounds.Statement (.responseTimerExpiry tag) := by
  simp [OperandBounds.Statement, OperandBounds.Bounds, Instr.WellFormed]

theorem OperandBounds.anchorReadResponse (tag : XferTag) (response : DownResponse) : OperandBounds.Statement (.anchorReadResponse tag response) := by
  simp [OperandBounds.Statement, OperandBounds.Bounds, Instr.WellFormed, DownResponse.WellFormed]

theorem OperandBounds.scanReadResponse (tag : XferTag) (response : DownResponse) : OperandBounds.Statement (.scanReadResponse tag response) := by
  simp [OperandBounds.Statement, OperandBounds.Bounds, Instr.WellFormed, DownResponse.WellFormed]

theorem OperandBounds.recordReadResponse (tag : XferTag) (response : DownResponse) : OperandBounds.Statement (.recordReadResponse tag response) := by
  simp [OperandBounds.Statement, OperandBounds.Bounds, Instr.WellFormed, DownResponse.WellFormed]

theorem OperandBounds.replayWriteResponse (tag : XferTag) (response : DownResponse) : OperandBounds.Statement (.replayWriteResponse tag response) := by
  simp [OperandBounds.Statement, OperandBounds.Bounds, Instr.WellFormed, DownResponse.WellFormed]

theorem OperandBounds.warmResetClearing : OperandBounds.Statement .warmResetClearing := by
  simp [OperandBounds.Statement, OperandBounds.Bounds, Instr.WellFormed]

theorem OperandBounds.start (value : Word32) : OperandBounds.Statement (.start value) := by
  simp [OperandBounds.Statement, OperandBounds.Bounds, Instr.WellFormed]

theorem OperandBounds.format (value : Word32) : OperandBounds.Statement (.format value) := by
  simp [OperandBounds.Statement, OperandBounds.Bounds, Instr.WellFormed]

theorem OperandBounds.warmReset (value : Word32) : OperandBounds.Statement (.warmReset value) := by
  simp [OperandBounds.Statement, OperandBounds.Bounds, Instr.WellFormed]

theorem OperandBounds.clearOverflow (value : Word32) : OperandBounds.Statement (.clearOverflow value) := by
  simp [OperandBounds.Statement, OperandBounds.Bounds, Instr.WellFormed]

theorem OperandBounds.irqEnableSet (value : Word32) : OperandBounds.Statement (.irqEnableSet value) := by
  simp [OperandBounds.Statement, OperandBounds.Bounds, Instr.WellFormed]

theorem OperandBounds.irqEnableClear (value : Word32) : OperandBounds.Statement (.irqEnableClear value) := by
  simp [OperandBounds.Statement, OperandBounds.Bounds, Instr.WellFormed]

theorem OperandBounds.eventPop : OperandBounds.Statement .eventPop := by
  simp [OperandBounds.Statement, OperandBounds.Bounds, Instr.WellFormed]

theorem OperandBounds.sequenceLoRead (pair : SequencePair) : OperandBounds.Statement (.sequenceLoRead pair) := by
  simp [OperandBounds.Statement, OperandBounds.Bounds, Instr.WellFormed]

theorem OperandBounds.windowFieldWrite (register : WindowRegister) (value : Word32) : OperandBounds.Statement (.windowFieldWrite register value) := by
  simp [OperandBounds.Statement, OperandBounds.Bounds, Instr.WellFormed]

theorem OperandBounds.registerWrite (address : BitVec 16) (value : Word32) : OperandBounds.Statement (.registerWrite address value) := by
  simp [OperandBounds.Statement, OperandBounds.Bounds, Instr.WellFormed]

theorem OperandBounds.badCommandFrame (frame : List Byte) : OperandBounds.Statement (.badCommandFrame frame) := by
  simp [OperandBounds.Statement, OperandBounds.Bounds, Instr.WellFormed]

end Sys2Proof.Laws
end

