-- ==== Sys2Proof/Laws/Port.lean ====
section
/-! SUPPORT. The downstream port: finding entries, answers, transfer tags and grants. -/

namespace Sys2Proof.Machine

/-! ### Answers (R176) -/

theorem State.entry_eq_none {s : State} {t : XferTag} :
    s.entry t = none ↔ ∀ e ∈ s.downstream.outstanding, e.tag ≠ t := by
  unfold State.entry; rw [List.find?_eq_none]; simp

theorem State.entry_tag {s : State} {t : XferTag} {e : OutEntry} (h : s.entry t = some e) : e.tag = t := by
  unfold State.entry at h; simpa using List.find?_some h

theorem State.entry_mem {s : State} {t : XferTag} {e : OutEntry} (h : s.entry t = some e) :
    e ∈ s.downstream.outstanding := by
  unfold State.entry at h; exact List.mem_of_find?_eq_some h

/-- A response with no entry is discarded (R176). -/
theorem State.respond_of_none {s : State} {t : XferTag} (mine : Ref → Bool) (r : DownResponse) (h : s.entry t = none) :
    s.respond mine t r = .next s := by
  simp [State.respond, h]

/-- A response to an entry of the command's own kind goes to its owner (R176). -/
theorem State.respond_of_entry {s : State} {mine : Ref → Bool} {t : XferTag} {e : OutEntry} {r : DownResponse}
    (h : s.entry t = some e) (hm : mine e.ref = true) (hf : e.kind.fits r = true) :
    s.respond mine t r = .next ((s.removeEntry t).deliver e r) := by
  simp [State.respond, h, hm, hf]

/-- Everything an answer of the memory can come to. -/
theorem State.respond_cases (s : State) (mine : Ref → Bool) (t : XferTag) (r : DownResponse) :
    s.respond mine t r = .next s ∨
      ∃ e, s.entry t = some e ∧ mine e.ref = true ∧
        (e.kind.fits r = true ∧ s.respond mine t r = .next ((s.removeEntry t).deliver e r) ∨
          e.kind.fits r = false ∧ s.respond mine t r = .fault .readDataLength) := by
  unfold State.respond
  split
  · rename_i e h
    split
    · rename_i hm
      split
      · rename_i hf; exact .inr ⟨e, h, hm, .inl ⟨hf, rfl⟩⟩
      · rename_i hf; exact .inr ⟨e, h, hm, .inr ⟨by simpa using hf, rfl⟩⟩
    · exact .inl rfl
  · exact .inl rfl

@[simp] theorem DownKind.fits_error (k : DownKind) : k.fits .error = true := by cases k <;> rfl

@[simp] theorem DownKind.fits_write (r : DownResponse) : DownKind.write.fits r = true := by cases r <;> rfl

@[simp] theorem DownKind.fits_flush (r : DownResponse) : DownKind.flush.fits r = true := by cases r <;> rfl

@[simp] theorem DownKind.fits_read (n : Nat) (d : List Byte) : (DownKind.read n).fits (.ack d) = decide (d.length = n) := rfl

/-! ### Transfer tags (R172) -/

/-- The tag search stops at the first tag from the counter up that is not held, within its bound. -/
theorem freeTag_spec (held : List XferTag) : ∀ (k : Nat) (t : XferTag), ∃ n, n ≤ k ∧
    freeTag held k t = t + BitVec.ofNat 16 n ∧ (∀ j, j < n → t + BitVec.ofNat 16 j ∈ held) ∧
    (n < k → freeTag held k t ∉ held) := by
  intro k; induction k with
  | zero => intro t; exact ⟨0, by omega, by simp [freeTag], by omega, by omega⟩
  | succ k ih =>
    intro t; unfold freeTag
    by_cases h : t ∈ held
    · obtain ⟨n, h1, h2, h3, h4⟩ := ih (t + 1)
      have e : ∀ j, t + 1 + BitVec.ofNat 16 j = t + BitVec.ofNat 16 (j + 1) := by
        intro j; rw [BitVec.ofNat_add]; ac_rfl
      refine ⟨n + 1, by omega, by rw [if_pos h, h2, e], ?_, ?_⟩
      · intro j hj
        cases j with
        | zero => simpa using h
        | succ j => rw [← e]; exact h3 j (by omega)
      · intro hn; rw [if_pos h]; exact h4 (by omega)
    · exact ⟨0, by omega, by simp [h], by omega, by simp [h]⟩

/-- The tag the search gives is not held: the held tags are too few to fill the numbers looked at. -/
theorem freeTag_not_mem (held : List XferTag) (hl : held.length < 65536) (t : XferTag) :
    freeTag held held.length t ∉ held := by
  obtain ⟨n, h1, h2, h3, h4⟩ := freeTag_spec held held.length t
  by_cases hn : n < held.length
  · exact h4 hn
  · have hn : n = held.length := by omega
    rw [h2]; intro hmem
    have hsub : (List.range (n + 1)).map (fun j => t + BitVec.ofNat 16 j) ⊆ held := by
      intro x hx; simp at hx; obtain ⟨j, hj, rfl⟩ := hx
      rcases Nat.lt_or_ge j n with h | h
      · exact h3 j h
      · rw [show j = n by omega]; exact hmem
    have hnd : ((List.range (n + 1)).map fun j => t + BitVec.ofNat 16 j).Nodup := by
      rw [List.nodup_map_iff_inj_on List.nodup_range]
      intro x hx y hy hxy
      simp at hx hy
      have := congrArg BitVec.toNat hxy; simp at this; omega
    have := (List.subperm_of_subset hnd hsub).length_le
    simp at this; omega

/-! ### Grants (R173) -/

theorem State.firstReady_eq {s : State} {before after : List Port} {p : Port} {x : DownRequest × Ref}
    (h : s.downstream.searchFrom.ringFrom = before ++ p :: after) (hb : ∀ b ∈ before, s.presents b = none)
    (hp : s.presents p = some x) : s.firstReady = some (p, x.1, x.2) := by
  unfold State.firstReady
  rw [h, List.findSome?_append, List.findSome?_eq_none_iff.2]
  · simp [hp]
  · intro b hb'; simp [hb b hb']

/-- Beyond the port itself a grant changes only the block of the granted requester. -/
theorem State.granted_frame (s : State) (p : Port) (q : DownRequest) (ref : Ref) :
    ∃ ingress writer ring release recovery, (s.issue p q ref).granted p ref =
      { s.issue p q ref with
        ingress := ingress, writer := writer, ring := ring, release := release, recovery := recovery } ∧
      (p ≠ .ingress → ingress = s.ingress) ∧ (p ≠ .writer → writer = s.writer) ∧ (p ≠ .ring → ring = s.ring) ∧
      (p ≠ .release → release = s.release) ∧ (p ≠ .recovery → recovery = s.recovery) := by
  cases p
  case ingress => exact ⟨_, s.writer, s.ring, s.release, s.recovery, rfl, by simp⟩
  case writer => cases ref <;> exact ⟨s.ingress, _, s.ring, s.release, s.recovery, rfl, by simp⟩
  case ring => cases ref <;> exact ⟨s.ingress, s.writer, _, s.release, s.recovery, rfl, by simp⟩
  case release =>
    have hr : ∀ t : State, ∃ r, t.presentRelease = { t with release := r } := by
      intro t; unfold State.presentRelease; split <;> exact ⟨_, rfl⟩
    cases ref
    case releaseLine c =>
      obtain ⟨r, e⟩ := hr _
      exact ⟨s.ingress, s.writer, s.ring, r, s.recovery, e, by simp⟩
    case releaseMarker c =>
      obtain ⟨r, e⟩ := hr _
      exact ⟨s.ingress, s.writer, s.ring, r, s.recovery, e, by simp⟩
    all_goals exact ⟨s.ingress, s.writer, s.ring, s.release, s.recovery, rfl, by simp⟩
  case recovery =>
    have hr : ∀ t : State, ∃ r, t.passRecord = { t with recovery := r } := by
      intro t; unfold State.passRecord; split <;> exact ⟨_, rfl⟩
    cases ref
    case replayMarker =>
      obtain ⟨r, e⟩ := hr _
      exact ⟨s.ingress, s.writer, s.ring, s.release, r, e, by simp⟩
    all_goals exact ⟨s.ingress, s.writer, s.ring, s.release, _, rfl, by simp⟩

end Sys2Proof.Machine
end

