-- ==== Sys2Proof/Laws/Ring.lean ====
section
/-! SUPPORT. What the checks that other steps make can do: the start conditions of an anchor update, the drain check and the record
flush. -/

namespace Sys2Proof.Machine

/-! ### The start conditions (R112) -/

theorem Mode.carriesCommits_iff (m : Mode) : m.carriesCommits = true ↔ m = .online ∨ m = .draining := by
  cases m <;> simp [Mode.carriesCommits]

/-- A check of the start conditions changes the ring manager alone, as `Ring.startChecked` says (R112). -/
theorem State.startUpdate_eq (s : State) :
    s.startUpdate = { s with ring := s.ring.startChecked s.mode s.settings.anchorInterval } := by
  have h : s.updateDue = true ↔ (s.ring.update = .idle ∧ (s.mode = .online ∨ s.mode = .draining) ∧ s.ring.unanchored ≠ 0 ∧
      (s.settings.anchorInterval ≤ s.ring.retirements ∨ s.ring.spaceRequest = true ∨ s.mode = .draining ∨
        s.ring.again = true)) := by
    simp [State.updateDue, State.updateTrigger, Mode.carriesCommits_iff, and_assoc, or_assoc]
  unfold State.startUpdate Ring.startChecked
  by_cases hd : s.updateDue = true
  · rw [if_pos hd, if_pos (h.1 hd)]
  · rw [if_neg hd, if_neg (mt h.2 hd)]

theorem Ring.startChecked_of_busy {g : Ring} (m : Mode) (k : Nat) (h : g.update ≠ .idle) : g.startChecked m k = g := by
  unfold Ring.startChecked; rw [if_neg fun x => h x.1]

theorem Ring.startChecked_of_anchored {g : Ring} (m : Mode) (k : Nat) (h : g.unanchored = 0) : g.startChecked m k = g := by
  unfold Ring.startChecked; rw [if_neg fun x => x.2.2.1 h]

/-- A second check finds nothing left to start. -/
@[simp] theorem Ring.startChecked_startChecked (g : Ring) (m : Mode) (k : Nat) :
    (g.startChecked m k).startChecked m k = g.startChecked m k := by
  by_cases h : g.startChecked m k = g
  · rw [h, h]
  · refine Ring.startChecked_of_busy m k ?_
    unfold Ring.startChecked at h ⊢
    split
    · simp
    · rename_i hn; rw [if_neg hn] at h; exact absurd rfl h

/-! ### The drain check (R183) -/

/-- The drain check changes nothing unless the drain is complete (R183). -/
theorem State.drainCheck_of_not {s : State} (h : s.drainDone = false) : s.drainCheck = s := by
  unfold State.drainCheck; rw [h]; rfl

theorem State.drainDone_iff (s : State) : s.drainDone = true ↔ s.mode = .draining ∧ s.writer.commitQueue = [] ∧
    s.writer.openBatch = [] ∧ s.writer.flight = none ∧ s.release.queue = [] ∧ s.release.releasing = [] ∧
    s.ring.unanchored = 0 := by
  simp [State.drainDone, and_assoc]

theorem State.push_withMode (s : State) (b : EventBody) (m : Mode) :
    State.push { s with mode := m } b = { s.push b with mode := m } := by
  unfold State.push
  by_cases h : s.events.entries.length < Config.eventDepth
  · simp only [if_pos h]
  · simp only [if_neg h]

/-- A complete drain makes the mode DRAINED, with its two events (R183). -/
theorem State.drainCheck_of_done {s : State} (h : s.drainDone = true) : s.drainCheck =
    { s.pushAll [.modeChange .drained .draining, .drainDone s.ring.durableSequence] with mode := .drained } := by
  unfold State.drainCheck State.setMode
  rw [if_pos h, ((State.drainDone_iff s).1 h).1]
  exact State.push_withMode _ _ _

/-- A retirement leaves bytes unanchored, so the drain check it makes finds the drain incomplete (R110, R183). -/
theorem State.drainCheck_of_unanchored {s : State} (h : s.ring.unanchored ≠ 0) : s.drainCheck = s :=
  State.drainCheck_of_not (by
    cases hd : s.drainDone with
    | false => rfl
    | true => exact absurd ((State.drainDone_iff s).1 hd).2.2.2.2.2.2 h)

/-! ### The two together with the record flush (R93) -/

/-- The checks of R93 and of R112 act on different parts of the state, so either may be made first. -/
theorem State.startUpdate_checkFlush (s : State) : s.startUpdate.checkFlush = s.checkFlush.startUpdate := by
  have hr : (s.ring.startChecked s.mode s.settings.anchorInterval).spaceRequest = s.ring.spaceRequest := by
    unfold Ring.startChecked; split <;> rfl
  have hd : s.startUpdate.flushDue = s.flushDue := by
    rw [State.startUpdate_eq]; simp only [State.flushDue, State.canTakeHead, hr]
  unfold State.checkFlush
  rw [hd]
  by_cases h : s.flushDue = true
  · simp only [if_pos h, State.startUpdate_eq]
  · simp only [if_neg h]

end Sys2Proof.Machine
end

