-- ==== Sys2Proof/Tests/Slice0.lean ====
section
/-! SUPPORT. Tests: ill-formed terms, the spec's worked examples, one step of each command, and for each statement with
hypotheses a state that meets them. Expected values come from the chapter a test names. -/

namespace Sys2Proof.Tests

set_option maxRecDepth 20000
set_option Elab.async false

open Sys2Proof Sys2Proof.Machine

/-! ## Ill-formed terms -/

/-- A write of one byte with tag 9 of initiator 2. -/
def oneByte : UpRequest := ⟨.write [some 0x5A], 2, 9, 0x4000⟩

theorem test_read_of_length_zero_is_ill_formed :
    (Instr.upstreamRequest ⟨.read 0, 0, 0, 0⟩).WellFormed = false := by decide
theorem test_write_of_no_bytes_is_ill_formed :
    (Instr.upstreamRequest ⟨.write [], 0, 0, 0⟩).WellFormed = false := by decide
theorem test_read_of_257_bytes_is_ill_formed :
    (Instr.upstreamRequest ⟨.read 257, 0, 0, 0⟩).WellFormed = false := by decide
theorem test_requests_of_1_and_256_bytes_are_well_formed :
    (Instr.upstreamRequest ⟨.read 1, 0, 0, 0⟩).WellFormed = true ∧
      (Instr.upstreamRequest ⟨.read 256, 63, 255, 0⟩).WellFormed = true := by decide
theorem test_response_of_257_bytes_is_ill_formed :
    (Instr.readResponse 0 (.ack (List.replicate 257 0))).WellFormed = false := by decide +kernel
theorem test_ill_formed_request_is_refused :
    exec (.upstreamRequest ⟨.read 0, 0, 0, 0⟩) State.reset = .refused .illFormed := by rfl
theorem test_no_word_spells_a_command : decodeTableWord 8 0 = none ∧ decodeTableWord 32 0xFFFFFFFF = none := by decide

/-! ## Helpers -/

/-- The state after a command; the reset state where there is none. -/
def after (c : Instr) (s : State) : State :=
  match exec c s with
  | .next t => t
  | _ => State.reset

/-- A journal window over 0x10000–0x1FFFF whose marker word is its last, with signature 0xBEEF. -/
def win : Window :=
  { Window.cold with
    mode := .journal, base := 0x10000, mask := 0xFFFFFFFF0000, markerPattern := 0xFFF8, markerMask := 0xFFF8
    signature := 0xBEEF, idleTimeout := 50, abortedEvent := true, retiredEvent := true, durableEvent := true }

/-- ONLINE with that window, both engines ACTIVE and the ring empty at sequence 1. -/
def online : State :=
  { State.reset with
    mode := .online
    windows := State.reset.windows.set 0 win
    writer := { Writer.cold with active := true }
    release := { Release.cold with active := true }
    ring := { Ring.cold with epoch := 3, nextSequence := 1, retiredSequence := 1, durableSequence := 1 } }

def owner : Owner := ⟨2, 0, 7⟩
def marker : CommitMarker := ⟨8, 0x1FFF8, 0x02BEEF0000000008⟩
def opened : Context := .opened owner false 0 true
def failed : Context := .failed owner .idle 0 (some 100)
def queued : Context := .queued owner false marker (some ⟨2, 9⟩)
def writing : Context := .writing owner false marker ⟨1, 0⟩ (some ⟨2, 9⟩)
def durable : Context := .durable owner false marker ⟨1, 0⟩
def releasing : Context := .releasing owner false marker ⟨1, 0⟩

def putCtx (c : ContextIx) (x : Context) (s : State) : State := { s with contexts := s.contexts.set c x }
def bound (c : ContextIx) (s : State) : State := { s with bindings := [⟨2, 0, c⟩] }
def hold (hs : List HeldSlot) (s : State) : State := { s with hold := hs }
def head (r : UpRequest) (s : State) : State := { s with ingress := { s.ingress with queue := [r] } }
def sent (k : DownKind) (ref : Ref) (s : State) : State :=
  { s with downstream := { s.downstream with outstanding := [⟨5, k, some 0x1000, ref, 0, 500⟩] } }
def at_ (t : Word64) (s : State) : State := { s with timebase := t }
def waits (w : HeadWait) (s : State) : State :=
  { s with ingress := { s.ingress with wait := some w, timer := some ⟨0, 2000⟩ } }

/-- Eight bytes at the start of a line. -/
def slot (n : SlotNo) (line : Addr) (c : ContextIx) : HeldSlot :=
  ⟨n, line, lineBytesAt 0 (List.replicate 8 (some 0x5A)), c⟩

def write (a : Addr) (bs : List (Option Byte)) : UpRequest := ⟨.write bs, 2, 9, a⟩
def bytes8 : List (Option Byte) := List.replicate 8 (some 0x5A)
def markerWriteOf (a : Addr) (v : Word64) : UpRequest := write a ((leBytes 8 v.toNat).map some)
def openValue : Word64 := 0x01BEEF0000000007
def commitValue : Word64 := 0x02BEEF0000000008
def abortValue : Word64 := 0x03BEEF0000000009

def batch (c : ContextIx) (n : Nat) : BatchRecord := ⟨c, [], n⟩

/-! ## The integrity code and the formats -/

/-- Conventions: the check value over "123456789". -/
theorem test_crc_check_value : crc32 [0x31, 0x32, 0x33, 0x34, 0x35, 0x36, 0x37, 0x38, 0x39] = 0xE3069283#32 := by
  decide +kernel

/-- 5.8: the record of two entries is 256 bytes and goes out as four full-line writes. -/
theorem test_example_5_8_record_writes :
    let s := { online with settings := { online.settings with journalBase := 0x70000000, ringSizeLog2 := 20 } }
    recordLength 2 = 256 ∧
      (writesAt (s.ringAddr 0x3F80) (List.replicate (recordLength 2) 1)).map DownRequest.address =
        [some 0x70004F80, some 0x70004FC0, some 0x70005000, some 0x70005040] := by decide +kernel

/-- 5.8: records of 1, 3, 64 and 256 entries at an offset that is a multiple of 64. -/
theorem test_example_5_8_record_lengths :
    [1, 3, 64, 256].map recordLength = [176, 336, 5216, 20576] ∧
      (writesAt 0x70001000 (List.replicate 176 1)).length = 3 ∧ (writesAt 0x70001000 (List.replicate 336 1)).length = 6 := by
  decide +kernel

/-- 11.4: header fields at their offsets. -/
theorem test_record_header_fields :
    let h := recordHeader 3 ⟨5, 1, 0x41⟩ false ⟨0x42, 0x20FFF028, 0x025A170000000042⟩ 1207 2
    [field h 0 4, field h 4 4, field h 8 8, field h 16 1, field h 17 1, field h 18 2, field h 20 4, field h 24 4,
        field h 28 4, field h 32 4, field h 40 8, field h 48 8] =
      [0x4C4A5243, 3, 1207, 1, 5, 2, 256, 0, 0x41, 0x42, 0x20FFF028, 0x025A170000000042] := by
  decide +kernel

/-- 11.4: the pad and the anchor. -/
theorem test_pad_and_anchor_fields :
    let p := padBytes 256 731
    let a := anchorBytes 3 9 20 0x70000000 0x4080 1208
    [field p 0 4, field p 4 4, field p 8 8] = [0x4C4A5044, 256, 731] ∧
      [field a 0 4, field a 4 4, field a 8 8, field a 16 1, field a 24 8, field a 32 8, field a 40 8] =
        [0x4C4A4E41, 3, 9, 20, 0x70000000, 0x4080, 1208] ∧ anchorValid a 20 0x70000000 = true := by decide +kernel

/-! ## 1.5: classifying requests -/

/-- The window table of the example of 1.5. -/
def entry0 : Window := { Window.cold with mode := .pass, base := 0x20080000, mask := 0xFFFFFFFFF000 }
def entry1 : Window :=
  { Window.cold with
    mode := .journal, base := 0x20000000, mask := 0xFFFFFF000000, markerPattern := 0x20FFF000
    markerMask := 0xFFFFFFFFF000, signature := 0x5A17 }
def entry2 : Window :=
  { Window.cold with
    mode := .journal, base := 0x30000000, mask := 0xFFFFFFF00000, markerPattern := 0xFF8, markerMask := 0xFF8
    signature := 0x0C31 }
def table : State := { online with windows := ((State.reset.windows.set 0 entry0).set 1 entry1).set 2 entry2 }

theorem test_example_1_5_windows :
    table.journalWindow 0x20001040 = some 1 ∧ table.journalWindow 0x20080040 = none ∧
      table.journalWindow 0x30000FC0 = some 2 ∧ table.journalWindow 0x40000000 = none := by decide +kernel

theorem test_example_1_5_open_and_data :
    table.markerCheck (write 0x20001040 bytes8) = .none ∧
      table.markerCheck (markerWriteOf 0x20FFF010 0x015A170000000007) =
        .marker 1 0x20FFF010 .openTxn 0x015A170000000007 ∧
      table.markerCheck ⟨.read 8, 2, 9, 0x20FFF010⟩ = .none := by decide +kernel

theorem test_example_1_5_malformed_shapes :
    table.markerCheck (write 0x20FFF008 (List.replicate 16 (some 0))) = .malformed 1 0x20FFF008 .shape ∧
      table.markerCheck (write 0x30000FC0 (List.replicate 128 (some 0))) = .malformed 2 0x30000FF8 .shape ∧
      table.markerCheck (write 0x20FFF020 (List.replicate 4 (some 0) ++ List.replicate 4 none)) =
        .malformed 1 0x20FFF020 .shape := by decide +kernel

theorem test_example_1_5_malformed_values :
    table.markerCheck (markerWriteOf 0x30002FF8 0x025A170000000003) = .malformed 2 0x30002FF8 .signature ∧
      table.markerCheck (markerWriteOf 0x20FFF018 0x045A170000000009) = .malformed 1 0x20FFF018 .unknownCode ∧
      table.markerCheck (markerWriteOf 0x30004FF8 0x030C31FF00000001) = .malformed 2 0x30004FF8 .nonzero := by
  decide +kernel

/-! ## One step of each command -/

/-- R20: the lowest FREE context, bound, with the tag of the marker. -/
theorem test_open_marker :
    let t := after .headEvaluation (head (markerWriteOf 0x1FFF8 openValue) online)
    t.ctx 0 = opened ∧ t.bindings = [⟨2, 0, 0⟩] ∧ t.upOut = [⟨⟨2, 9⟩, .ok []⟩] ∧ t.ingress.queue = [] := by decide +kernel

/-- 3.8, steps 4 and 5: bytes 8–23 and then a merge at 20–31 give bytes 8–31 in one slot. -/
theorem test_merge_keeps_one_slot :
    let s := bound 3 (putCtx 3 opened online)
    let t := after .headEvaluation (head (write 0x13008 (List.replicate 16 (some 1))) s)
    let u := after .headEvaluation (head (write 0x13014 (List.replicate 12 (some 2))) t)
    u.hold = [⟨0, 0x13000, lineBytesAt 8 (List.replicate 12 (some 1) ++ List.replicate 12 (some 2)), 3⟩] := by
  decide +kernel

/-- R42. -/
theorem test_cold_reset : after .coldReset (at_ 9 (bound 3 (putCtx 3 opened online))) = State.reset := by decide +kernel

/-- R181: the OPEN context fails POWER, and bytes to anchor start an update; with nothing left the drain is complete at once. -/
theorem test_pfwarn_asserted :
    let s := at_ 7 (bound 3 (putCtx 3 opened { online with ring := { online.ring with live := 176, unanchored := 176 } }))
    let t := after .pfwarnAsserted s
    (t.mode = .draining ∧ t.ctx 3 = .failed owner .power 7 (some 100) ∧ t.ring.update = .homeFlush ∧
      t.events.entries.map Event.body = [.modeChange .draining .online, .txnFailed 3 2 0 none .power none 0]) ∧
      (after .pfwarnAsserted online).events.entries.map Event.body =
        [.modeChange .draining .online, .modeChange .drained .draining, .drainDone 1] := by decide +kernel

/-- R184. -/
theorem test_pfwarn_deasserted :
    let t := after .pfwarnDeasserted { online with mode := .drained, pfwarn := true }
    t.mode = .online ∧ t.pfwarn = false ∧ t.events.entries.map Event.body = [.modeChange .online .drained] := by
  decide +kernel

/-- R163: the ninth request is not taken. -/
theorem test_upstream_request :
    (after (.upstreamRequest oneByte) online).ingress.queue = [oneByte] ∧
      (after (.upstreamRequest oneByte)
        { online with ingress := { Ingress.cold with queue := List.replicate 8 oneByte } }).ingress.queue.length = 8 := by
  decide +kernel

/-- R29: at 50 µs, not at 49. -/
theorem test_idle_timer_expiry :
    (after (.idleTimerExpiry 3) (at_ 50 (bound 3 (putCtx 3 opened online)))).ctx 3 = .failed owner .idle 50 (some 100) ∧
      (after (.idleTimerExpiry 3) (at_ 49 (bound 3 (putCtx 3 opened online)))).ctx 3 = opened := by decide +kernel

/-- R31: at 100 ms. -/
theorem test_orphan_timer_expiry :
    let t := after (.orphanTimerExpiry 3) (at_ 100000 (bound 3 (putCtx 3 failed online)))
    t.ctx 3 = .free ∧ t.bindings = [] ∧ t.events.entries.map Event.body = [.txnOrphaned 3 2 0 .idle] := by decide +kernel

/-- R60: a bare wait ends in TIMEOUT with REQUEST_TIMEOUT. -/
theorem test_stall_timer_expiry :
    let t := after .stallTimerExpiry (waits (.bare 0 0x13000) (at_ 2000 (head (write 0x13000 bytes8) online)))
    t.upOut = [⟨⟨2, 9⟩, .timeout⟩] ∧ t.events.entries.map Event.body = [.requestTimeout 2 0 0x13000] ∧
      t.ingress.queue = [] := by decide +kernel

/-- A commit queue whose head holds three entries, and the ring of 6.8. -/
def wrapping : State :=
  { hold [slot 0 0x10000 3, slot 1 0x10040 3, slot 2 0x10080 3] (putCtx 3 queued online) with
    settings := { Settings.cold with journalBase := 0x60000000 }
    writer := { Writer.cold with active := true, commitQueue := [3] }
    ring := { Ring.cold with
      epoch := 3, head := 65280, nextSequence := 731, retiredOffset := 30000, retiredSequence := 712
      durableOffset := 8192, durableSequence := 690, live := 57088, unanchored := 21808 } }

/-- 6.8: the reservation that wraps. -/
theorem test_take_commit_head :
    let t := after .takeCommitHead wrapping
    t.ctx 3 = .writing owner false marker ⟨731, 0⟩ (some ⟨2, 9⟩) ∧ t.ring.head = 336 ∧ t.ring.nextSequence = 732 ∧
      t.ring.live = 57680 ∧ t.ring.pendingPad = some ⟨65280, 256⟩ := by decide +kernel

/-- 6.8: the pad is written at 0x6001_0F00, the record from 0x6000_1000. -/
theorem test_take_commit_head_writes :
    (((after .takeCommitHead wrapping).writer.openBatch.map BatchRecord.toIssue).flatten.map DownRequest.address) =
      [some 0x60010F00, some 0x60001000, some 0x60001040, some 0x60001080, some 0x600010C0, some 0x60001100,
        some 0x60001140] := by decide +kernel

/-- 6.8: record 730 retires, and the retired tail passes the pad. -/
theorem test_retired_tail_passes_the_pad :
    let g := { Ring.cold with retiredOffset := 64944, retiredSequence := 730, pendingPad := some ⟨65280, 256⟩ }
    let h := g.retire 65536 16 64944 336 730
    let i := h.retire 65536 16 0 336 731
    (h.retiredOffset, h.retiredSequence, h.unanchored, h.pendingPad) = (0, 731, 592, none) ∧
      (i.retiredOffset, i.retiredSequence, i.unanchored) = (336, 732, 928) := by decide +kernel

/-- 9.7: the search from the ring manager grants the FLUSH with tag 812; from the recovery engine it wraps to ingress. -/
theorem test_arbiter_grant :
    let s := { online with
      downstream := { outstanding := [], counter := 812, searchFrom := .ring }
      ring := { online.ring with update := .homeFlush, toIssue := [(.flush, .homeFlush)] }
      ingress := { Ingress.cold with handOver := [⟨.read 0x4000 8, .pendingAnswer 0, false⟩] } }
    let t := after .arbiterGrant s
    let u := after .arbiterGrant { t with downstream := { t.downstream with searchFrom := .recovery } }
    t.dnOut = [(812, .flush)] ∧ t.downstream.searchFrom = .release ∧ u.dnOut.map Prod.fst = [812, 813] ∧
      u.ingress.handOver = [] := by decide +kernel

/-- R93: the one write of the batch is acknowledged and nothing waits, so the flush is presented. -/
theorem test_record_write_response :
    (after (.recordWriteResponse 5 (.ack [])) (sent .write (.recordWrite 3) (putCtx 3 writing
      { online with writer := { Writer.cold with active := true, openBatch := [batch 3 1] } }))).writer.flight =
      some ⟨[3], true⟩ := by decide +kernel

/-- R97: the faulted write frees the WRITING context and its COMMIT is answered FAILED/JOURNAL. -/
theorem test_record_write_error :
    let t := after (.recordWriteResponse 5 .error) (sent .write (.recordWrite 3) (putCtx 3 writing
      { online with writer := { Writer.cold with active := true, openBatch := [batch 3 1] } }))
    t.mode = .faulted ∧ t.ctx 3 = .free ∧ t.upOut = [⟨⟨2, 9⟩, .failed (.context .journal)⟩] ∧
      t.events.entries.map Event.body = [.journalFault (some 1) .write (some 0x1000) 1, .modeChange .faulted .online,
        .txnFailed 3 2 0 (some 1) .journal none 0] := by decide +kernel

/-- R94. -/
theorem test_record_flush_response :
    let t := after (.recordFlushResponse 5 (.ack [])) (sent .flush .recordFlush (putCtx 3 writing
      { online with writer := { Writer.cold with active := true, flight := some ⟨[3], false⟩ } }))
    t.ctx 3 = durable ∧ t.release.queue = [3] ∧ t.upOut = [⟨⟨2, 9⟩, .ok []⟩] ∧ t.writer.flight = none := by decide +kernel

/-- R123. -/
theorem test_release_take_head :
    let t := after .releaseTakeHead (hold [slot 0 0x10000 3] (putCtx 3 durable
      { online with release := { Release.cold with active := true, queue := [3] } }))
    t.ctx 3 = releasing ∧ t.release.releasing = [⟨3, 0, 0, false, false⟩] ∧ t.release.presented = some (.line 3) := by
  decide +kernel

/-- R125: the last line acknowledgement makes the marker write ready. -/
theorem test_release_write_response :
    let t := after (.releaseWriteResponse 5 (.ack [])) (sent .write (.releaseLine 3) (hold [slot 0 0x10000 3]
      (putCtx 3 releasing { online with release := { Release.cold with
        active := true, releasing := [⟨3, 1, 0, false, false⟩] } })))
    t.release.releasing = [⟨3, 1, 1, false, false⟩] ∧ t.release.presented = some (.marker 3) := by decide +kernel

/-- A context of one entry whose marker write is acknowledged. -/
def complete : State :=
  hold [slot 0 0x10000 3] (putCtx 3 releasing { online with
    release := { Release.cold with active := true, releasing := [⟨3, 1, 1, true, true⟩] }
    ring := { online.ring with head := 176, nextSequence := 2, live := 176 } })

/-- R128. -/
theorem test_retirement :
    let t := after .retirement complete
    t.ctx 3 = .free ∧ t.hold = [] ∧ t.ring.retiredOffset = 176 ∧ t.ring.retiredSequence = 2 ∧ t.ring.unanchored = 176 ∧
      t.events.entries.map Event.body = [.txnRetired 3 2 0 1 1] := by decide +kernel

/-- R129: the bare write that waited behind the retired slot is evaluated again and handed over. -/
theorem test_retirement_evaluates_the_head :
    let t := after .retirement (waits (.bare 0 0x10000) (head (write 0x10000 bytes8) complete))
    t.ingress.queue = [] ∧ t.ingress.handOver.map HandOver.request =
      [.write 0x10000 (lineBytesAt 0 bytes8)] := by decide +kernel

/-- A ring with one retired record, its anchor update in some state. -/
def anchoring (u : AnchorUpdate) : State :=
  { online with ring := { online.ring with
    retiredOffset := 176, retiredSequence := 2, nextSequence := 2, head := 176, live := 176, unanchored := 176
    retirements := 16, update := u
    snapshot := if u = .idle then none else some ⟨176, 2, 176⟩ } }

/-- R112. -/
theorem test_anchor_update_start :
    let t := after .anchorUpdateStart (anchoring .idle)
    t.ring.update = .homeFlush ∧ t.ring.toIssue = [(.flush, .homeFlush)] := by decide +kernel

/-- R114: the two lines of copy A. -/
theorem test_home_flush_response :
    let t := after (.homeFlushResponse 5 (.ack [])) (sent .flush .homeFlush (anchoring .homeFlush))
    t.ring.update = .anchorWrite ∧ t.ring.toIssue.map (fun q => q.1.address) = [some 0, some 64] := by decide +kernel

/-- R114: the second acknowledgement leads on. -/
theorem test_anchor_write_response :
    (after (.anchorWriteResponse 5 (.ack [])) (sent .write .anchorWrite (anchoring .anchorWrite))).ring.writesAcked = 1 ∧
      (after (.anchorWriteResponse 5 (.ack [])) (sent .write .anchorWrite
        { anchoring .anchorWrite with ring := { (anchoring .anchorWrite).ring with writesAcked := 1 } })).ring.update =
        .anchorFlush := by decide +kernel

/-- R115. -/
theorem test_anchor_flush_response :
    let t := after (.anchorFlushResponse 5 (.ack [])) (sent .flush .anchorFlush (anchoring .anchorFlush))
    t.ring.durableOffset = 176 ∧ t.ring.live = 0 ∧ t.ring.unanchored = 0 ∧ t.ring.generation = 1 ∧ t.ring.nextCopy = .b := by
  decide +kernel

/-- R110, R112, R115: the start conditions are checked within the step. 6.9 at 70,080: the refused reservation starts an update; its
variant with ANCHOR_INTERVAL 1: the completion at 70,180 starts the next; a retirement that reaches K, and a written
ANCHOR_INTERVAL, start one too. -/
theorem test_update_starts_within_the_step :
    let refused := after .takeCommitHead { wrapping with ring := { wrapping.ring with
      head := 65248, live := 65248, unanchored := 39360, retirements := 60 } }
    let again := after (.anchorFlushResponse 5 (.ack [])) (sent .flush .anchorFlush { anchoring .anchorFlush with
      ring := { (anchoring .anchorFlush).ring with
        live := 25888, unanchored := 40016, retirements := 1, again := true, snapshot := some ⟨39360, 160, 39360⟩ } })
    let reached := after .retirement { complete with settings := { Settings.cold with anchorInterval := 1 } }
    let lowered := after (.registerWrite 0x0094 15) { anchoring .idle with
      ring := { (anchoring .idle).ring with retirements := 15 } }
    (refused.ring.spaceRequest, refused.ring.again) = (true, false) ∧
      (again.ring.durableSequence, again.ring.unanchored, again.ring.again) = (160, 656, false) ∧
      ∀ t ∈ [refused, again, reached, lowered], t.ring.update = .homeFlush ∧ t.ring.toIssue = [(.flush, .homeFlush)] := by
  decide +kernel

/-- 10.4 at 90,100 and at 90,240: the completion with bytes left starts U2, and the one that leaves nothing ends the drain. -/
theorem test_drain_check_within_the_step :
    let s := fun unanchored => sent .flush .anchorFlush { anchoring .anchorFlush with
      mode := .draining, ring := { (anchoring .anchorFlush).ring with unanchored := unanchored } }
    let t := after (.anchorFlushResponse 5 (.ack [])) (s 528)
    let u := after (.anchorFlushResponse 5 (.ack [])) (s 176)
    (t.mode, t.ring.update, t.ring.unanchored) = (.draining, .homeFlush, 352) ∧
      (u.mode, u.ring.update, u.drainedPin) = (.drained, .idle, true) ∧
      u.events.entries.map Event.body = [.modeChange .drained .draining, .drainDone 2] := by decide +kernel

/-- R183. -/
theorem test_drain_complete :
    let t := after .drainComplete { online with mode := .draining }
    t.mode = .drained ∧ t.drainedPin = true ∧
      t.events.entries.map Event.body = [.modeChange .drained .draining, .drainDone 1] := by decide +kernel

/-- 4.7: contexts 8 (DURABLE, bytes 0–31), 9 (QUEUED, bytes 16–47) and 10 (OPEN, bytes 40–63) on line 0x2000_6000. -/
def reads : State :=
  { table with
    contexts := ((State.reset.contexts.set 8 (.durable ⟨11, 1, 0⟩ false marker ⟨1, 0⟩)).set 9
      (.queued ⟨12, 1, 0⟩ false marker none)).set 10 (.opened ⟨13, 1, 0⟩ false 0 false)
    bindings := [⟨13, 1, 10⟩]
    hold := [⟨200, 0x20006000, lineBytesAt 0 (List.replicate 32 (some 0xA8)), 8⟩,
      ⟨201, 0x20006000, lineBytesAt 16 (List.replicate 32 (some 0xB9)), 9⟩,
      ⟨202, 0x20006000, lineBytesAt 40 (List.replicate 24 (some 0xCA)), 10⟩] }

theorem test_example_4_7_overlays :
    reads.overlays ⟨.read 64, 14, 1, 0x20006000⟩ = [⟨0x20006000, lineBytesAt 0
        (List.replicate 16 (some 0xA8) ++ List.replicate 32 (some 0xB9))⟩] ∧
      reads.overlays ⟨.read 64, 13, 2, 0x20006000⟩ = [⟨0x20006000, lineBytesAt 0
        (List.replicate 16 (some 0xA8) ++ List.replicate 24 (some 0xB9) ++ List.replicate 24 (some 0xCA))⟩] := by
  decide +kernel

theorem test_example_4_7_range :
    reads.overlays ⟨.read 16, 13, 3, 0x20006038⟩ = [⟨0x20006000, lineBytesAt 56 (List.replicate 8 (some 0xCA))⟩] ∧
      reads.overlays ⟨.read 16, 11, 4, 0x20006030⟩ = [] := by decide +kernel

/-- 4.7: read R is answered with its own 8 bytes and then memory's. -/
theorem test_read_response :
    (after (.readResponse 5 (.ack (List.replicate 16 0))) (sent (.read 16) (.tracking 7) { reads with
      tracking := reads.tracking.set 7 (some ⟨⟨13, 3⟩, 0x20006038, 16,
        [⟨0x20006000, lineBytesAt 56 (List.replicate 8 (some 0xCA))⟩]⟩) })).upOut =
      [⟨⟨13, 3⟩, .ok (List.replicate 8 0xCA ++ List.replicate 8 0)⟩] := by decide +kernel

/-- R169: an error among the responses makes the one answer MEMORY_ERROR. -/
theorem test_ingress_response :
    (after (.ingressResponse 5 (.ack [])) (sent .write (.pendingAnswer 0)
      { online with ingress := { Ingress.cold with answers := [⟨0, ⟨2, 9⟩, 1, true⟩] } })).upOut =
      [⟨⟨2, 9⟩, .memoryError⟩] := by decide +kernel

/-- 9.7: the response of tag 813 after its timer is discarded. -/
theorem test_late_response_discard : after (.lateResponseDiscard 813 (.ack [])) online = online := by decide +kernel

/-- 9.7: the timer of a line write expires: DOWNSTREAM_TIMEOUT, and a release fault. -/
theorem test_response_timer_expiry :
    let t := after (.responseTimerExpiry 5) (at_ 500 (sent .write (.releaseLine 3) (putCtx 3 releasing
      { online with release := { Release.cold with active := true, releasing := [⟨3, 1, 0, false, false⟩] } })))
    t.release.active = false ∧ t.mode = .faulted ∧ t.events.entries.map Event.body =
      [.downstreamTimeout none .release (some 0x1000), .releaseFault 3 2 0 1 .line (some 0x1000),
        .modeChange .faulted .online] := by decide +kernel

/-- A recovery in some phase. -/
def recovering (p : Phase) : State :=
  { State.reset with mode := .recovering, recovery := ⟨p, []⟩ }

def goodA : List Byte := anchorBytes 3 7 16 0 176 2
def goodB : List Byte := anchorBytes 3 8 16 0 352 3
def noAnchor : List Byte := List.replicate 128 0

/-- R150: the higher generation. -/
theorem test_anchor_read_response :
    let t := after (.anchorReadResponse 5 (.ack goodB)) (sent (.read 128) (.anchorRead .b)
      (recovering (.anchors false (some goodA) none)))
    t.ring.generation = 8 ∧ t.ring.nextCopy = .a ∧ t.recovery.toIssue = [(.read 0x1160 16, .scanRead)] := by decide +kernel

def chosen : ChosenAnchor := ⟨.a, 7, 3, 0, 1⟩
def scanning (st : ScanStep) (buffer : List Byte) (unanswered : Nat) : Phase :=
  .scan ⟨chosen, 0, 1, 0, buffer, 0, st, unanswered⟩

/-- R152, R155: anything but a pad or a record ends the scan; CLOSE raises the epoch and asks for the closing update. -/
theorem test_scan_read_response :
    let t := after (.scanReadResponse 5 (.ack (List.replicate 16 0))) (sent (.read 16) .scanRead
      (recovering (scanning .item [] 0)))
    t.recovery.phase = .close ⟨some chosen, false, 0, 1, 0, 0⟩ ∧ t.ring.epoch = 1 ∧
      t.ring.toIssue = [(.flush, .homeFlush)] := by decide +kernel

/-- The record of one entry with sequence 1. -/
def record : List Byte := recordBytes 3 owner false marker 1 [slot 0 0x10000 3]

/-- R154: the header passes and the 112 bytes behind it are read. -/
theorem test_record_read_response_header :
    (after (.recordReadResponse 5 (.ack ((record.drop 16).take 48))) (sent (.read 48) .headerRead
      (recovering (scanning .header (record.take 16) 0)))).recovery.toIssue = [(.read 0x1040 112, .bodyRead 64)] := by
  decide +kernel

/-- R156: a valid record's one entry is written home; a record with a wrong byte ends the scan. -/
theorem test_record_read_response_body :
    let s := fun (data : List Byte) => after (.recordReadResponse 5 (.ack data)) (sent (.read 112) (.bodyRead 64)
      (recovering (scanning (.body 1) (record.take 64 ++ List.replicate 112 0) 0)))
    (s (record.drop 64)).recovery.toIssue = [(.write 0x10000 (slot 0 0x10000 3).bytes, .replayEntry)] ∧
      (s (List.replicate 112 0)).recovery.phase = .close ⟨some chosen, false, 0, 1, 0, 0⟩ := by decide +kernel

/-- R156: after the entry writes, the marker value. -/
theorem test_replay_write_response :
    (after (.replayWriteResponse 5 (.ack [])) (sent .write .replayEntry
      (recovering (scanning (.entries 1) record 1)))).recovery.toIssue =
      [(markerWrite 0x1FFF8 0x02BEEF0000000008, .replayMarker)] := by decide +kernel

/-- R158: the in-doubt COMMITs, 8.12: below the end sequence OK, from it on FAILED/RESET. -/
theorem test_recovery_ends :
    let t := after (.anchorFlushResponse 5 (.ack [])) (sent .flush .anchorFlush
      { recovering (.close ⟨some chosen, false, 352, 503, 2, 0⟩) with
        ring := { Ring.cold with update := .anchorFlush, closing := true, snapshot := some ⟨352, 503, 0⟩ }
        inDoubt := [⟨⟨4, 1⟩, 502⟩, ⟨⟨4, 2⟩, 503⟩] })
    t.mode = .online ∧ t.upOut = [⟨⟨4, 1⟩, .ok []⟩, ⟨⟨4, 2⟩, .failed .reset⟩] ∧ t.ring.head = 352 ∧
      t.events.entries.map Event.body = [.recoveryDone 503 2, .modeChange .online .recovering] := by decide +kernel

/-- R148. -/
theorem test_warm_reset_clearing :
    let t := after .warmResetClearing (putCtx 3 writing { recovering .quiesce with inDoubt := [⟨⟨2, 9⟩, 1⟩] })
    t.ctx 3 = .free ∧ t.inDoubt = [⟨⟨2, 9⟩, 1⟩] ∧ t.recovery.toIssue.map Prod.snd = [.anchorRead .a, .anchorRead .b] := by
  decide +kernel

/-- R140. -/
theorem test_start :
    let t := after (.start 0) State.reset
    t.mode = .recovering ∧ t.recovery.toIssue = [(.read 0 128, .anchorRead .a), (.read 128 128, .anchorRead .b)] ∧
      t.reply = some ⟨none, some .ok⟩ ∧ (after (.start 0) online).reply = some ⟨none, some .busy⟩ := by decide +kernel

/-- R104, R140: a region that passes the address space is refused. -/
theorem test_start_outside_the_address_space :
    (after (.start 0) { State.reset with settings := { Settings.cold with journalBase := 0xFFFFFFFF0000 } }).reply =
      some ⟨none, some .badAddr⟩ := by decide +kernel

/-- R151. -/
theorem test_format : (after (.format 0) State.reset).recovery.phase = .anchors true none none := by decide +kernel

/-- R41, R146. -/
theorem test_warm_reset :
    let t := after (.warmReset 0) (head oneByte (putCtx 3 writing
      { online with writer := { Writer.cold with active := true, openBatch := [batch 3 1] } }))
    t.mode = .recovering ∧ t.recovery.phase = .quiesce ∧ t.upOut = [⟨⟨2, 9⟩, .refused .reset⟩] ∧
      t.inDoubt = [⟨⟨2, 9⟩, 1⟩] ∧ t.writer.active = false := by decide +kernel

/-- R190. -/
theorem test_clear_overflow :
    (after (.clearOverflow 0) { online with events := { EventQueue.cold with overflow := true } }).events.overflow = false := by
  decide +kernel

/-- R195: both IRQ bits set are refused. -/
theorem test_irq_enable :
    (after (.irqEnableSet 0) online).settings.irqEnable = true ∧
      (after (.irqEnableClear 0) (after (.irqEnableSet 0) online)).settings.irqEnable = false ∧
      (after (.irqEnableSet 0x20) online).reply = some ⟨none, some .badAddr⟩ := by decide +kernel

/-- R189, R197: word 0 of a MARKER_REFUSED event: kind 6, reason 4, initiator 2, window 0, no context. -/
theorem test_event_pop :
    let t := after .eventPop (online.push (.markerRefused none 2 0 .noContext 0x1FFF8))
    t.reply = some ⟨some 0x00020406, some .ok⟩ ∧ t.events.entries = [] ∧
      (after .eventPop t).reply = some ⟨some 0, some .ok⟩ := by decide +kernel

/-- R197: the seven words of a RELEASE_FAULT event at time 9. -/
theorem test_event_words :
    let e : Event := ⟨9, .releaseFault 5 2 1 0x1_00000003 .marker (some 0x8000_0001_2340)⟩
    [0, 1, 2, 3, 4, 5, 6].map (eventWord (some e)) = [0x0A42020B, 9, 3, 1, 0x00012340, 0x003F8000, 0] := by decide +kernel

/-- R196. -/
theorem test_sequence_lo_read :
    let t := after (.sequenceLoRead .nextSequence)
      { online with ring := { online.ring with nextSequence := 0x1_00000002 } }
    t.reply = some ⟨some 2, some .ok⟩ ∧ t.registerValue (.sequenceHi .nextSequence) = 1 := by decide +kernel

/-- R2, R6, R7. -/
theorem test_window_field_write :
    ((after (.windowFieldWrite .baseLo 0x2000103F) online).window 0).base = 0x20001000 ∧
      (after (.windowFieldWrite .lengthLimit 257) online).reply = some ⟨none, some .badAddr⟩ ∧
      (after (.windowFieldWrite .lengthLimit 0) (putCtx 15 opened online)).reply = some ⟨none, some .busy⟩ := by decide +kernel

/-- R193, R194. -/
theorem test_register_write :
    (after (.registerWrite 0x0098 8) online).settings.flushBatch = 8 ∧
      (after (.registerWrite 0x0098 9) online).reply = some ⟨none, some .badAddr⟩ ∧
      (after (.registerWrite 0x0088 20) online).reply = some ⟨none, some .busy⟩ ∧
      (after (.registerWrite 0x0000 0) online).reply = some ⟨none, some .badAddr⟩ := by decide +kernel

/-- R192, R193: another command byte; a READ of MODE, whole and cut after its address; an address of no register; and a WRITE of
FLUSH_BATCH, whole and cut before its last byte. -/
theorem test_bad_command_frame :
    (after (.badCommandFrame [0x03, 0, 0, 0, 0, 0, 0, 0]) online).reply = some ⟨some 0, some .badAddr⟩ ∧
      (after (.badCommandFrame [0x0B, 0, 0, 0, 0, 0, 0, 0]) { online with pfwarn := true }).reply = some ⟨some 0x102, some .ok⟩ ∧
      (after (.badCommandFrame [0x0B, 0, 0]) online).reply = some ⟨some 2, none⟩ ∧
      (after (.badCommandFrame [0x0B, 1, 0x38, 0, 0, 0, 0, 0]) online).reply = some ⟨some 0, some .badAddr⟩ ∧
      (after (.badCommandFrame [0x02, 0, 0x98, 0, 0, 0, 8, 0]) online).settings.flushBatch = 8 ∧
      after (.badCommandFrame [0x02, 0, 0x98, 0, 0, 0]) online = { online with reply := some ⟨none, none⟩ } := by
  decide +kernel

/-- R192: MISO during a READ frame of nine bytes and during a refused WRITE frame. -/
theorem test_reply_bytes :
    Reply.shifted ⟨some 0x12345678, some .ok⟩ 9 =
        [none, none, none, some 0x12, some 0x34, some 0x56, some 0x78, some 0x00, some 0] ∧
      Reply.shifted ⟨none, some .badAddr⟩ 8 = List.replicate 7 none ++ [some 0x02] := by decide +kernel

/-- R83, R93: a batch of two written records, behind which a head is queued, is flushed once FLUSH_BATCH is lowered to two. -/
theorem test_lowered_flush_batch_flushes :
    let s := putCtx 3 queued { online with
      writer := { Writer.cold with active := true, commitQueue := [3], openBatch := [batch 4 0, batch 5 0] } }
    (after .takeCommitHead (after (.registerWrite 0x0098 2) s)).writer.flight = some ⟨[4, 5], true⟩ := by decide +kernel

/-- 1.1, R194: registers after cold reset. -/
theorem test_register_values_after_reset :
    [Register.mode, .control, .eventCount, .ringSizeLog2, .timebaseDiv, .anchorInterval, .flushBatch, .stallTimeout,
      .orphanTimeout, .downstreamTimeout, .windowField .policy, .windowField .lengthLimit].map State.reset.registerValue =
      [0, 0, 0, 16, 100, 16, 4, 2000, 100, 500, 9, 64] := by decide +kernel

/-! ## Witnesses: for each statement with hypotheses, states and operands that meet them, clause by clause -/

/-- Context 3 OPEN and bound for initiator 2. -/
def opener : State := bound 3 (putCtx 3 opened online)

theorem test_meets_StepTakesFrontCommand :
    { online with pending := [.eventPop, .coldReset] }.pending = .eventPop :: [.coldReset] := by rfl

theorem test_meets_IdleStepsCountMicroseconds :
    State.reset.pending = [] ∧ 1 ≤ State.reset.settings.timebaseDiv ∧
      State.reset.refclkLeft = State.reset.settings.timebaseDiv := by decide +kernel

/-- 63 and 64 events held. -/
theorem test_meets_EventPushAndOutputLines :
    let s := fun n => { online with events := { EventQueue.cold with entries := List.replicate n ⟨0, .drainDone 1⟩ } }
    (s 63).events.entries.length < 64 ∧ 64 ≤ (s 64).events.entries.length := by decide +kernel

theorem test_meets_LowestMatchingEntryDecides : win.mask.toNat % 64 = 0 ∧ win.matchesAddr 0x1FFFF = true := by decide +kernel

theorem test_meets_WindowFieldWriteAppliedWhenAllFree :
    (putCtx 15 opened online).ctx 15 ≠ .free ∧ (∀ c, online.ctx c = .free) ∧
      Window.written (online.window 0) 0 .lengthLimit = none ∧ Window.written (online.window 0) 257 .lengthLimit = none ∧
      Window.written (online.window 0) 3 .mode = none ∧ Window.written (online.window 0) 0 .policy = none ∧
      (Window.written (online.window 0) 1 .lengthLimit).isSome = true ∧
      (Window.written (online.window 0) 256 .lengthLimit).isSome = true := by decide +kernel

/-! ### Marker words -/

/-- The premises about the marker word of a write. -/
abbrev TouchesMarker (s : State) (r : UpRequest) (bs : List (Option Byte)) (w : WindowIx) (a : Addr) : Prop :=
  s.HeadIs r ∧ r.kind = .write bs ∧ r.addr.toNat + bs.length ≤ 2 ^ 48 ∧
    (∃ k, k < bs.length ∧ wordOf (r.addr + BitVec.ofNat 48 k) = a) ∧ s.markerWindow a = some w ∧
    ∀ k, k < bs.length → (s.markerWindow (wordOf (r.addr + BitVec.ofNat 48 k))).isSome = true →
      a.toNat ≤ (wordOf (r.addr + BitVec.ofNat 48 k)).toNat

/-- Sixteen bytes, of which the last eight touch the marker word; and the last byte of the marker word. -/
theorem test_meets_MalformedRequestRefusedWhole_shape :
    let bs : List (Option Byte) := List.replicate 16 (some 0)
    TouchesMarker (head (write 0x1FFF0 bs) online) (write 0x1FFF0 bs) bs 0 0x1FFF8 ∧
      ¬(bs.length = 8 ∧ (write 0x1FFF0 bs).addr.toNat % 8 = 0 ∧ ∀ b ∈ bs, b.isSome = true) ∧
      TouchesMarker (head (write 0x1FFFF [some 0]) online) (write 0x1FFFF [some 0]) [some 0] 0 0x1FFF8 := by
  simp only [TouchesMarker, State.HeadIs]; decide +kernel

/-- The marker word written with a byte that should be zero, the low byte of the signature, and the code. -/
def valued (zero low code : Byte) : List (Option Byte) :=
  [some 7, some 0, some 0, some 0, some zero, some low, some 0xBE, some code]

/-- Codes 0 and 4, a wrong signature, and a byte that is not zero. -/
theorem test_meets_MalformedRequestRefusedWhole_values :
    exactValue (write 0x1FFF8 (valued 0 0xEF 0)) = some 0x00BEEF0000000007#64 ∧
      exactValue (write 0x1FFF8 (valued 0 0xEF 4)) = some 0x04BEEF0000000007#64 ∧
      exactValue (write 0x1FFF8 (valued 0 0xEE 1)) = some 0x01BEEE0000000007#64 ∧
      exactValue (write 0x1FFF8 (valued 1 0xEF 1)) = some 0x01BEEF0100000007#64 ∧ win.signature = 0xBEEF#16 := by
  decide +kernel

theorem test_meets_MalformedRequestRefusedWhole_word :
    TouchesMarker (head (write 0x1FFF8 (valued 0 0xEF 4)) online) (write 0x1FFF8 (valued 0 0xEF 4)) (valued 0 0xEF 4) 0
      0x1FFF8 := by
  simp only [TouchesMarker, State.HeadIs]; decide +kernel

/-- The premises of the marker statements. -/
abbrev MarkerAt (s : State) (cmd : MarkerCommand) (v : Word64) : Prop :=
  s.HeadIs (markerWriteOf 0x1FFF8 v) ∧ passesAddressSpace (markerWriteOf 0x1FFF8 v) = false ∧
    s.markerCheck (markerWriteOf 0x1FFF8 v) = .marker 0 0x1FFF8 cmd v ∧ s.mode.evaluates = true

def openAt (s : State) : State := head (markerWriteOf 0x1FFF8 openValue) s
def commitAt (s : State) : State := head (markerWriteOf 0x1FFF8 commitValue) s
def abortAt (s : State) : State := head (markerWriteOf 0x1FFF8 abortValue) s

theorem test_meets_OpenMarkerTakesLowestFreeContext :
    (∀ m ∈ [Mode.draining, .drained, .faulted], MarkerAt (openAt { online with mode := m }) .openTxn openValue) ∧
      MarkerAt (openAt opener) .openTxn openValue ∧ (openAt opener).boundContext 2 0 = some 3 := by
  simp only [MarkerAt, State.HeadIs]; decide +kernel

theorem test_meets_OpenMarkerTakesLowestFreeContext_full_and_free :
    (let s := openAt { online with contexts := Vector.replicate 16 queued };
      MarkerAt s .openTxn openValue ∧ s.mode = .online ∧ s.boundContext 2 0 = none ∧ ∀ c, (s.ctx c).isFree = false) ∧
    let s := openAt { online with contexts := (Vector.replicate 16 queued).set 15 .free }
    MarkerAt s .openTxn openValue ∧ s.mode = .online ∧ s.boundContext 2 0 = none ∧ s.ctx 15 = .free ∧
      ∀ d, d < 15 → (s.ctx d).isFree = false := by
  simp only [MarkerAt, State.HeadIs]; decide +kernel

theorem test_meets_CommitMarkerQueuesContext :
    (MarkerAt (commitAt online) .commitTxn commitValue ∧ (commitAt online).boundContext 2 0 = none) ∧
    (let s := commitAt (bound 3 (putCtx 3 failed online));
      MarkerAt s .commitTxn commitValue ∧ s.boundContext 2 0 = some 3 ∧ s.ctx 3 = failed) ∧
    (let s := commitAt opener;
      MarkerAt s .commitTxn commitValue ∧ s.boundContext 2 0 = some 3 ∧ s.ctx 3 = opened ∧ s.entryCount 3 = 0) ∧
    (let s := commitAt (hold [slot 0 0x10000 3] opener);
      MarkerAt s .commitTxn commitValue ∧ s.boundContext 2 0 = some 3 ∧ s.ctx 3 = opened ∧ s.entryCount 3 = 1 ∧
        (s.window 0).ackMode = .durable) ∧
    let s := commitAt { hold [slot 0 0x10000 3] opener with
      windows := online.windows.set 0 { win with ackMode := .early } }
    MarkerAt s .commitTxn commitValue ∧ s.boundContext 2 0 = some 3 ∧ s.ctx 3 = opened ∧ s.entryCount 3 = 1 ∧
      (s.window 0).ackMode = .early := by
  simp only [MarkerAt, State.HeadIs]; decide +kernel

theorem test_meets_AbortMarkerFreesContext :
    (MarkerAt (abortAt online) .abortTxn abortValue ∧ (abortAt online).boundContext 2 0 = none) ∧
    (let s := abortAt (bound 3 (putCtx 3 failed online));
      MarkerAt s .abortTxn abortValue ∧ s.boundContext 2 0 = some 3 ∧ s.ctx 3 = failed) ∧
    let s := abortAt (hold [slot 0 0x10000 3] opener)
    MarkerAt s .abortTxn abortValue ∧ s.boundContext 2 0 = some 3 ∧ s.ctx 3 = opened := by
  simp only [MarkerAt, State.HeadIs]; decide +kernel

/-! ### Timers -/

theorem test_meets_ContextTimersExpire_idle :
    (at_ 50 opener).ctx 3 = .opened owner false 0 true ∧ (win.idleTimeout.toNat = 50 ∧ 0 + 50 ≤ (at_ 50 opener).timebase.toNat) ∧
      (at_ 49 opener).timebase.toNat < 0 + 50 ∧ Window.cold.idleTimeout.toNat = 0 := by decide +kernel

theorem test_meets_ContextTimersExpire_not_open : ∀ o f since, online.ctx 3 ≠ .opened o f since true := by
  have h : online.ctx 3 = .free := by decide +kernel
  simp [h]

theorem test_meets_ContextTimersExpire_orphan :
    let s := fun t => at_ t (bound 3 (putCtx 3 failed online))
    (s 100000).ctx 3 = .failed owner .idle 0 (some 100) ∧ 0 + 1000 * 100 ≤ (s 100000).timebase.toNat ∧
      (s 99999).timebase.toNat < 0 + 1000 * 100 := by decide +kernel

theorem test_meets_ContextTimersExpire_not_failed : ∀ o why since ms, opener.ctx 3 ≠ .failed o why since (some ms) := by
  have h : opener.ctx 3 = opened := by decide +kernel
  simp [h, opened]

/-! ### Data writes -/

/-- The premises of the statements about a write of eight bytes at the start of a line under context 3. -/
abbrev WriteUnder (s : State) (a : Addr) (f idle : Bool) : Prop :=
  let r := write a bytes8
  s.HeadIs r ∧ s.ingress.walk = none ∧ r.kind = .write bytes8 ∧ passesAddressSpace r = false ∧
    posOf r.addr + bytes8.length ≤ 64 ∧ bytes8.any Option.isSome = true ∧ s.markerCheck r = .none ∧
    s.mode.evaluates = true ∧ s.journalWindow r.addr = some 0 ∧ s.boundContext r.initiator 0 = some 3 ∧
    s.ctx 3 = .opened owner f 0 idle

/-- The last bytes of a line, behind the context's own slot and on a line with nothing held. -/
theorem test_meets_BoundWriteIsHeld :
    (let s := head (write 0x10038 bytes8) (hold [slot 0 0x10000 3] opener);
      WriteUnder s 0x10038 false true ∧ ∃ h, (s.chain 0x10000).getLast? = some h ∧ h.owner = 3) ∧
    let s := head (write 0x10038 bytes8) (hold [slot 0 0x10000 4] (putCtx 4 queued
      { opener with windows := online.windows.set 0 { win with lengthLimit := 1 } }))
    WriteUnder s 0x10038 false true ∧ (∀ h ∈ (s.chain 0x10000).getLast?, h.owner ≠ 3 ∧ (s.ctx h.owner).isOpen = false) ∧
      s.entryCount 3 + 1 ≤ (s.window 0).lengthLimit ∧ (∀ h ∈ s.hold, h.number ≠ 1) ∧
      ∀ m, m < (1 : SlotNo) → ∃ h ∈ s.hold, h.number = m := by
  refine ⟨⟨by simp only [WriteUnder, State.HeadIs]; decide +kernel, slot 0 0x10000 3, by decide +kernel⟩, ?_⟩
  simp only [WriteUnder, State.HeadIs]; decide +kernel

theorem test_meets_BoundWriteFailsOrWaits_conflict_and_length :
    (let s := head (write 0x10000 bytes8) (hold [slot 0 0x10000 4] (putCtx 4 opened opener));
      WriteUnder s 0x10000 false true ∧ (s.chain 0x10000).getLast? = some (slot 0 0x10000 4) ∧
        (s.ctx 4).isOpen = true) ∧
    let s := head (write 0x10040 bytes8) (hold [slot 0 0x10000 3]
      { opener with windows := online.windows.set 0 { win with lengthLimit := 1 } })
    WriteUnder s 0x10040 false true ∧ (s.chain 0x10040).getLast? = none ∧
      (s.window 0).lengthLimit < s.entryCount 3 + 1 := by
  simp only [WriteUnder, State.HeadIs]; decide +kernel

/-- All 512 slots HELD by a committed context. -/
def fullHold : List HeldSlot := (List.finRange 512).map fun n => slot n 0x1F000 4

theorem test_fullHold_holds_every_slot (m : SlotNo) : ∃ h ∈ fullHold, h.number = m :=
  ⟨slot m 0x1F000 4, List.mem_map_of_mem (List.mem_finRange m), rfl⟩

theorem test_meets_BoundWriteFailsOrWaits_full :
    ∀ p ∈ [FullPolicy.fail, .stall],
      let s := head (write 0x10000 bytes8) (hold fullHold (putCtx 4 queued
        { opener with windows := online.windows.set 0 { win with fullPolicy := p } }))
      WriteUnder s 0x10000 false true ∧ (s.chain 0x10000).getLast? = none ∧ s.entryCount 3 + 1 ≤ (s.window 0).lengthLimit ∧
        s.hold = fullHold ∧ (s.window 0).fullPolicy = p := by
  simp only [WriteUnder, State.HeadIs]; decide +kernel

/-- The premises of the statement about a write that holds nothing, with its bytes and address. -/
abbrev LooseWrite (s : State) (a : Addr) (bs : List (Option Byte)) : Prop :=
  let r := write a bs
  s.HeadIs r ∧ s.ingress.walk = none ∧ r.kind = .write bs ∧ passesAddressSpace r = false ∧ 1 ≤ bs.length ∧
    posOf r.addr + bs.length ≤ 64 ∧ s.markerCheck r = .none

/-- The last byte of the address space, outside every window; with its byte enabled and not. -/
theorem test_meets_WriteNotHeldPassesWaitsOrFails_outside :
    ∀ b ∈ [some 0#8, none], LooseWrite (head (write 0xFFFFFFFFFFFF [b]) online) 0xFFFFFFFFFFFF [b] ∧
      online.journalWindow 0xFFFFFFFFFFFF = none := by
  simp only [LooseWrite, State.HeadIs]; decide +kernel

theorem test_meets_WriteNotHeldPassesWaitsOrFails_bound :
    (let s := head (write 0x10000 bytes8) (bound 3 (putCtx 3 failed online));
      LooseWrite s 0x10000 bytes8 ∧ s.journalWindow 0x10000 = some 0 ∧ s.mode.evaluates = true ∧
        s.boundContext 2 0 = some 3 ∧ s.ctx 3 = failed) ∧
    let s := head (write 0x10000 [none]) opener
    LooseWrite s 0x10000 [none] ∧ s.journalWindow 0x10000 = some 0 ∧ s.mode.evaluates = true ∧
      s.boundContext 2 0 = some 3 ∧ s.ctx 3 = opened := by
  simp only [LooseWrite, State.HeadIs]; decide +kernel

theorem test_meets_WriteNotHeldPassesWaitsOrFails_bare :
    (let s := head (write 0x10000 [none]) online;
      LooseWrite s 0x10000 [none] ∧ s.journalWindow 0x10000 = some 0 ∧ s.boundContext 2 0 = none) ∧
    (let s := head (write 0x10000 bytes8) (hold [slot 0 0x10000 4] (putCtx 4 durable online));
      LooseWrite s 0x10000 bytes8 ∧ s.journalWindow 0x10000 = some 0 ∧ s.boundContext 2 0 = none ∧
        ∃ h ∈ s.hold, h.line = 0x10000 ∧ (s.ctx h.owner).isCommitted = true) ∧
    (let s := head (write 0x10000 bytes8) (hold [slot 0 0x10000 4] (putCtx 4 opened online));
      LooseWrite s 0x10000 bytes8 ∧ s.journalWindow 0x10000 = some 0 ∧ s.boundContext 2 0 = none ∧
        (s.chain 0x10000).getLast? = some (slot 0 0x10000 4) ∧ s.ctx 4 = opened ∧
        ¬∃ h ∈ s.hold, h.line = 0x10000 ∧ (s.ctx h.owner).isCommitted = true) ∧
    let s := head (write 0x10000 bytes8) online
    LooseWrite s 0x10000 bytes8 ∧ s.journalWindow 0x10000 = some 0 ∧ s.boundContext 2 0 = none ∧
      (s.chain 0x10000).getLast? = none ∧ s.hold = [] := by
  simp only [LooseWrite, State.HeadIs]; decide +kernel

/-- A write of the last eight bytes of one line, a whole line and the first eight bytes of the next, under context 3. -/
def longWrite : UpRequest := write 0x10038 (List.replicate 80 (some 0x5A))

/-- The premises of the statement about the walk, before its first piece and resumed at its third. -/
theorem test_meets_WalkSettlesPieceByPiece :
    ∀ k ∈ [none, some (Walk.mk 2 [] [3] none), some (Walk.mk 3 [⟨0x10000, lineBytesAt 0 bytes8, true⟩] [] none),
        some (Walk.mk 3 [] [3] none), some (Walk.mk 2 [] [3] (some .idle))],
      let s := { head longWrite opener with ingress := { (head longWrite opener).ingress with walk := k } }
      s.HeadIs longWrite ∧ passesAddressSpace longWrite = false ∧ s.markerCheck longWrite = .none ∧ s.mode.evaluates = true ∧
        (pieces longWrite).map Prod.fst = [0x10038, 0x10040, 0x10080] ∧
        (pieces longWrite).drop (s.ingress.walk.getD Walk.fresh).settled =
          (pieces longWrite).drop (match k with | some w => w.settled | none => 0) := by
  simp only [State.HeadIs]; decide +kernel

/-- Its last piece with no window, unbound with and without a committed slot on its line, bound to a FAILED context, and with no
byte enabled; the placed, failed and waiting ends are those of the one-line statements. -/
theorem test_meets_WalkSettlesPieceByPiece_pieces :
    let p := (0x10080#48, List.replicate 8 (some (0x5A : Byte)))
    (pieces longWrite).drop 2 = [p] ∧ State.reset.journalWindow p.1 = none ∧ online.journalWindow p.1 = some 0 ∧
      online.boundContext 2 0 = none ∧ online.hold = [] ∧
      (let s := hold [slot 0 0x10080 4] (putCtx 4 durable online);
        hasBytes (lineBytesAt (posOf p.1) p.2) = true ∧ ∃ h ∈ s.hold, h.line = lineOf p.1 ∧ (s.ctx h.owner).isCommitted = true) ∧
      ((bound 3 (putCtx 3 failed online)).boundContext 2 0 = some 3 ∧ (bound 3 (putCtx 3 failed online)).ctx 3 = failed) ∧
      (opener.boundContext 2 0 = some 3 ∧ opener.ctx 3 = opened) ∧ hasBytes (lineBytesAt 0 [none]) = false := by
  decide +kernel

theorem test_meets_WalkSettlesPieceByPiece_placed :
    (let s := hold [slot 0 0x10080 3] opener; (s.chain 0x10080).getLast? = some (slot 0 0x10080 3) ∧ (slot 0 0x10080 3).owner = 3) ∧
    (let s := hold [slot 0 0x10080 4] (putCtx 4 opened opener);
      (s.chain 0x10080).getLast? = some (slot 0 0x10080 4) ∧ (s.ctx 4).isOpen = true) ∧
    (let s := hold [slot 0 0x10000 3] { opener with windows := online.windows.set 0 { win with lengthLimit := 1 } };
      (s.chain 0x10080).getLast? = none ∧ (s.window 0).lengthLimit < s.entryCount 3 + 1) ∧
    (opener.chain 0x10080).getLast? = none ∧ opener.entryCount 3 + 1 ≤ (opener.window 0).lengthLimit ∧
      (∀ h ∈ opener.hold, h.number ≠ 0) ∧
    ∀ q ∈ [FullPolicy.fail, .stall], (({ hold fullHold (putCtx 4 queued opener) with
      windows := online.windows.set 0 { win with fullPolicy := q } } : State).window 0).fullPolicy = q := by decide +kernel

theorem test_meets_HeadEndsOnceOrWaits : (head oneByte online).HeadIs oneByte := by
  unfold State.HeadIs; decide +kernel

/-! ### Reads -/

/-- The premises of the statement about reads. -/
abbrev ReadAt (s : State) (r : UpRequest) (n : Nat) : Prop :=
  s.HeadIs r ∧ r.kind = .read n ∧ passesAddressSpace r = false ∧
    (s.firstJournalPiece r = none ∨ s.mode.evaluates = true)

def readP : UpRequest := ⟨.read 64, 14, 1, 0x20006000⟩

theorem test_meets_ReadTakesLowestFreeEntry :
    (let r : UpRequest := ⟨.read 16, 11, 4, 0x20006030⟩;
      ReadAt (head r reads) r 16 ∧ (head r reads).overlays r = []) ∧
    (let s := head readP { reads with tracking := reads.tracking.set 0 (some ⟨⟨1, 1⟩, 0, 1, []⟩) };
      ReadAt s readP 64 ∧ s.overlays readP ≠ [] ∧ s.trackEntry 1 = none ∧ ∀ j, j < (1 : EntryNo) → s.trackEntry j ≠ none) ∧
    let s := head readP { reads with tracking := Vector.replicate 32 (some ⟨⟨1, 1⟩, 0, 1, []⟩) }
    ReadAt s readP 64 ∧ s.overlays readP ≠ [] ∧ ∀ k, s.trackEntry k ≠ none := by
  simp only [ReadAt, State.HeadIs]; decide +kernel

/-- The first and the last byte of a read. -/
theorem test_meets_OverlayGivesYoungestSeenByte :
    readP.kind = .read 64 ∧ readP.addr.toNat + 64 ≤ 2 ^ 48 ∧ (∀ h ∈ reads.hold, h.bytes.length = 64) ∧
      readP.addr.toNat ≤ 0x20006000 ∧ 0x20006000 < readP.addr.toNat + 64 ∧
      readP.addr.toNat ≤ 0x2000603F ∧ 0x2000603F < readP.addr.toNat + 64 := by decide +kernel

/-- With and without the OPEN slot of another context. -/
theorem test_meets_OverlayGivesYoungestSeenByte_visible :
    let visible := fun (h : HeldSlot) => (reads.ctx h.owner).isCommitted ||
      Config.windows.any fun w => decide (reads.boundContext readP.initiator w = some h.owner)
    reads.hold.filter visible = (reads.hold.take 2).filter visible ∧ reads.hold ≠ reads.hold.take 2 := by decide +kernel

theorem test_meets_ReadAnsweredWithOverlay :
    let x : TrackEntry := ⟨⟨13, 3⟩, 0x20006038, 16, [⟨0x20006000, lineBytesAt 56 (List.replicate 8 (some 0xCA))⟩]⟩
    let s := sent (.read 16) (.tracking 31) { reads with tracking := reads.tracking.set 31 (some x) }
    s.entry 5 = some ⟨5, .read 16, some 0x1000, .tracking 31, 0, 500⟩ ∧ s.trackEntry 31 = some x ∧
      (List.replicate 16 (0 : Byte)).length = 16 := by decide +kernel

/-! ### Ports -/

theorem test_meets_IngressAcceptsHoldsAndEvaluates_accept :
    (∀ n ∈ [1, 256], let r : UpRequest := ⟨.read n, 0, 0, 0⟩; 1 ≤ r.length ∧ r.length ≤ 256) ∧
      let s := fun n => { online with ingress := { Ingress.cold with queue := List.replicate n oneByte } }
      (s 7).ingress.queue.length < 8 ∧ 8 ≤ (s 8).ingress.queue.length := by decide +kernel

/-- A read whose range passes the address space by one byte, and one that ends with it. -/
theorem test_meets_IngressAcceptsHoldsAndEvaluates :
    online.ingress.queue = [] ∧ (waits (.bare 0 0x10000) (head oneByte online)).ingress.wait ≠ none ∧
      { online with ingress := { Ingress.cold with handOver := [⟨.flush, .pendingAnswer 0, false⟩] } }.ingress.handOver ≠ [] ∧
      (let r : UpRequest := ⟨.read 2, 2, 9, 0xFFFFFFFFFFFF⟩;
        (head r online).HeadIs r ∧ 2 ^ 48 < r.addr.toNat + r.length) ∧
      let r : UpRequest := ⟨.read 1, 2, 9, 0xFFFFFFFFFFFF⟩
      r.addr.toNat + r.length ≤ 2 ^ 48 := by
  simp only [State.HeadIs]; decide +kernel

theorem test_meets_IngressAcceptsHoldsAndEvaluates_mode :
    ∀ m ∈ [Mode.init, .recovering],
      ∀ r ∈ [markerWriteOf 0x1FFF8 openValue, write 0xFFFC bytes8, ⟨.read 8, 2, 9, 0x10000⟩],
        let s := head r { online with mode := m }
        s.HeadIs r ∧ r.addr.toNat + r.length ≤ 2 ^ 48 ∧ (s.firstJournalPiece r).isSome = true ∧ s.mode.evaluates = false ∧
          (match s.markerCheck r with | .malformed .. => false | _ => true) = true := by
  simp only [State.HeadIs]; decide +kernel

theorem test_meets_StallExpiryEndsTheWait :
    (∀ w ∈ [HeadWait.mode (.marker .openTxn 0 0x1FFF8), .mode (.marker .commitTxn 0 0x1FFF8),
        .mode (.marker .abortTxn 0 0x1FFF8), .mode (.data 0 0x10000), .bare 0 0x10000, .tracking 0, .slot 3 0x10000],
      let s := waits w (at_ 2000 (head oneByte opener))
      s.ingress.queue.head? = some oneByte ∧ s.ingress.timer = some ⟨0, 2000⟩ ∧ s.ingress.wait = some w ∧
        0 + 2000 ≤ s.timebase.toNat ∧ s.ctx 3 = opened) ∧
      (at_ 1999 online).timebase.toNat < 0 + 2000 ∧ online.ingress.wait = none ∧
      (waits (.slot 3 0x10000) (at_ 2000 (head oneByte (bound 3 (putCtx 3 failed online))))).ctx 3 = failed := by
  decide +kernel

/-- With one and with two requests unanswered, of a write and of a READ. -/
theorem test_meets_IngressResponseCounts :
    ∀ n ∈ [1, 2], ∀ k ∈ [DownKind.write, .read 4],
      let s := sent k (.pendingAnswer 0) { online with ingress := { Ingress.cold with answers := [⟨0, ⟨2, 9⟩, n, false⟩] } }
      (s.entry 5).map OutEntry.ref = some (.pendingAnswer 0) ∧
        (s.ingress.answers.find? fun q => q.id = 0) = some ⟨0, ⟨2, 9⟩, n, false⟩ ∧
        k.fits (.ack (List.replicate 4 0)) = true := by decide +kernel

/-- 32 requests outstanding; none ready; and 31 outstanding with the ring manager ready behind the writer. -/
theorem test_meets_GrantIssuesFirstReadyRequest :
    let s := fun n => { online with
      downstream := { outstanding := (List.range n).map fun i => ⟨BitVec.ofNat 16 i, .write, some 0, .homeFlush, 0, 500⟩,
                      counter := 0, searchFrom := .writer }
      ring := { online.ring with update := .homeFlush, toIssue := [(.flush, .homeFlush)] } }
    32 ≤ (s 32).downstream.outstanding.length ∧ (s 31).downstream.outstanding.length < 32 ∧
      (s 31).downstream.searchFrom.ringFrom = [.writer] ++ .ring :: [.release, .recovery, .ingress] ∧
      (∀ b ∈ [Port.writer], (s 31).presents b = none) ∧ (s 31).presents .ring = some (.flush, .homeFlush) ∧
      [Port.ingress, .writer, .ring, .release, .recovery].all (fun p => (online.presents p).isNone) = true := by
  decide +kernel

/-- The writer with its record flush presented and with its first unissued write in the second record; and the release engine. -/
theorem test_meets_GrantIssuesFirstReadyRequest_leaves :
    let s := fun flight => { online with
      downstream := { Downstream.cold with searchFrom := .writer }
      writer := { Writer.cold with active := true, openBatch := [batch 4 1, ⟨5, [.write 0x2000 emptyLine], 0⟩], flight := flight } }
    (s none).downstream.searchFrom.ringFrom = [] ++ .writer :: [.ring, .release, .recovery, .ingress] ∧
      (s (some ⟨[3], true⟩)).presents .writer = some (.flush, .recordFlush) ∧
      (s (some ⟨[3], false⟩)).presents .writer = some (.write 0x2000 emptyLine, .recordWrite 5) ∧
      (s none).writer.openBatch = [batch 4 1] ++ ⟨5, [.write 0x2000 emptyLine], 0⟩ :: [] ∧ (batch 4 1).toIssue = [] ∧
      let t := hold [slot 0 0x10000 3] (putCtx 3 releasing { online with
        downstream := { Downstream.cold with searchFrom := .release }
        release := ⟨true, [], [⟨3, 0, 0, false, false⟩], some (.line 3)⟩ })
      t.downstream.searchFrom.ringFrom = [] ++ .release :: [.recovery, .ingress, .writer, .ring] ∧
        t.presents .release = some (.write 0x10000 (slot 0 0x10000 3).bytes, .releaseLine 3) := by decide +kernel

theorem test_meets_TimeoutActsAsErrorAndLateIsDiscarded :
    responseOf (.homeFlushResponse 6 .error) = some (6, .error) ∧
      (let s := sent .flush .homeFlush (anchoring .homeFlush);
        (∀ e ∈ s.downstream.outstanding, e.tag ≠ 6) ∧ s.entry 5 = some ⟨5, .flush, some 0x1000, .homeFlush, 0, 500⟩ ∧
          (at_ 499 s).timebase.toNat < 0 + 500 ∧ 0 + 500 ≤ (at_ 500 s).timebase.toNat) := by decide +kernel

/-! ### The journal writer -/

/-- A QUEUED context 3 of one entry at the head of the commit queue, with a ring of 65536 bytes. -/
def toWrite (ringHead live : Nat) : State :=
  hold [slot 0 0x10000 3] (putCtx 3 queued { online with
    writer := { Writer.cold with active := true, commitQueue := [3] }
    ring := { online.ring with head := ringHead, live := live } })

/-- A record that fits exactly; a pad and a record that do; and either with one byte less free. -/
theorem test_meets_CommitHeadReservesAndJoinsBatch :
    let s := toWrite 65360 65360
    s.writer.active = true ∧ s.mode = .online ∧ s.writer.commitQueue = [3] ∧
      s.writer.openBatch.length < s.settings.flushBatch ∧ s.ctx 3 = queued ∧ s.entryCount 3 = 1 ∧
      (s.ring.head + 176 ≤ s.ringSize ∧ 176 ≤ s.ringSize - s.ring.live) ∧
      (s.ringSize < (toWrite 65376 65200).ring.head + 176 ∧ 160 + 176 ≤ s.ringSize - (toWrite 65376 65200).ring.live ∧
        176 < s.ringSize) ∧
      s.ringSize - (toWrite 65360 65361).ring.live < 176 ∧ s.ringSize - (toWrite 65376 65201).ring.live < 160 + 176 ∧
      online.mayTakeHead = false := by decide +kernel

theorem test_meets_CommitHeadReservesAndJoinsBatch_refused :
    let s := { toWrite 65360 65361 with writer := { (toWrite 0 0).writer with openBatch := [⟨4, [], 0⟩] } }
    s.ring.spaceRequest = false ∧ (s.writer.openBatch ≠ [] ∧ s.writer.flight = none ∧
      ∀ b ∈ s.writer.openBatch, b.toIssue = [] ∧ b.unanswered = 0) ∧ s.writer.openBatch.length < s.settings.flushBatch ∧
      (toWrite 65360 65361).writer.openBatch = [] ∧
      { s with ring := { s.ring with spaceRequest := true } }.ring.spaceRequest = true := by decide +kernel

/-- A full batch, written and not, and an empty queue with nothing to flush. -/
theorem test_meets_CommitHeadReservesAndJoinsBatch_full :
    let s := fun n => { toWrite 0 0 with
      settings := { Settings.cold with flushBatch := 1 }, writer := { (toWrite 0 0).writer with openBatch := [batch 4 n] } }
    ¬((s 0).writer.openBatch.length < (s 0).settings.flushBatch) ∧ (s 0).writer.active = true ∧ (s 0).writer.openBatch ≠ [] ∧
      (∀ b ∈ (s 0).writer.openBatch, b.toIssue = [] ∧ b.unanswered = 0) ∧ (s 0).writer.flight = none ∧
      (s 0).settings.flushBatch ≤ (s 0).writer.openBatch.length ∧
      ¬(∀ b ∈ (s 1).writer.openBatch, b.toIssue = [] ∧ b.unanswered = 0) ∧ online.writer.commitQueue = [] := by decide +kernel

/-- The last write of the batch with nothing behind it; and the last but one. -/
theorem test_meets_RecordWriteAcknowledgedFlushesBatch :
    let s := fun n => sent .write (.recordWrite 3) (putCtx 3 writing
      { online with writer := { Writer.cold with active := true, openBatch := [batch 3 n] } })
    let after := fun n => (s n).writer.openBatch.map fun b =>
      if b.context = 3 then { b with unanswered := b.unanswered - 1 } else b
    (s 1).entry 5 = some ⟨5, .write, some 0x1000, .recordWrite 3, 0, 500⟩ ∧ (s 1).writer.active = true ∧
      (after 1 ≠ [] ∧ (∀ b ∈ after 1, b.toIssue = [] ∧ b.unanswered = 0) ∧ (s 1).writer.flight = none ∧
        (s 1).writer.commitQueue = []) ∧
      ¬(∀ b ∈ after 2, b.toIssue = [] ∧ b.unanswered = 0) ∧ Writer.cold.active = false := by decide +kernel

/-- Two contexts in flight, one with its COMMIT pending; with a written batch behind them and without one. -/
theorem test_meets_RecordFlushMakesContextsDurable :
    let s := fun batches => sent .flush .recordFlush
      { online with
        contexts := (online.contexts.set 3 writing).set 4 (.writing owner false marker ⟨2, 176⟩ none)
        writer := { Writer.cold with active := true, openBatch := batches, flight := some ⟨[3, 4], false⟩ } }
    (s []).entry 5 = some ⟨5, .flush, some 0x1000, .recordFlush, 0, 500⟩ ∧ (s []).writer.active = true ∧
      (s []).writer.flight = some ⟨[3, 4], false⟩ ∧ [(3 : ContextIx), 4].Nodup ∧
      (∀ c ∈ [(3 : ContextIx), 4], ((s []).ctx c).isWriting = true) ∧
      ((s [batch 5 0]).writer.openBatch ≠ [] ∧ (∀ b ∈ (s [batch 5 0]).writer.openBatch, b.toIssue = [] ∧ b.unanswered = 0) ∧
        (s [batch 5 0]).writer.commitQueue = []) ∧ (s []).writer.openBatch = [] := by decide +kernel

/-- A journal fault with one context OPEN, one WRITING, one QUEUED, one DURABLE and one RELEASING. -/
def faulting : State :=
  sent .write (.recordWrite 3) (bound 1 { online with
    contexts := ((((online.contexts.set 1 opened).set 2 queued).set 3
      (.writing owner false marker ⟨3, 352⟩ (some ⟨2, 9⟩))).set 4 (.durable owner false marker ⟨2, 176⟩)).set 5
      (.releasing owner false marker ⟨1, 0⟩)
    hold := [slot 5 0x10000 5, slot 4 0x10040 4, slot 3 0x10080 3, slot 2 0x100C0 2, slot 1 0x10100 1]
    writer := ⟨true, [2], [batch 3 1], none⟩
    release := ⟨true, [4], [⟨5, 1, 0, false, false⟩], none⟩
    ring := { online.ring with head := 528, nextSequence := 4, live := 528 } })

theorem test_meets_FailedJournalRequestIsJournalFault :
    faulting.PipelineLaw ∧ faulting.entry 5 = some ⟨5, .write, some 0x1000, .recordWrite 3, 0, 500⟩ ∧
      faulting.writer.active = true := by
  unfold State.PipelineLaw; decide +kernel

/-- A failed record flush, and a failed request of every step of an anchor update. -/
def flushing : State := sent .flush .recordFlush { faulting with writer := ⟨true, [2], [], some ⟨[3], false⟩⟩ }
def anchorFaulting (ref : Ref) (u : AnchorUpdate) : State :=
  sent .write ref { faulting with ring := { faulting.ring with update := u, snapshot := some ⟨0, 1, 0⟩ } }

theorem test_meets_FailedJournalRequestIsJournalFault_flush :
    flushing.PipelineLaw ∧ flushing.entry 5 = some ⟨5, .flush, some 0x1000, .recordFlush, 0, 500⟩ ∧
      flushing.writer.flight = some ⟨[3], false⟩ := by
  unfold State.PipelineLaw; decide +kernel

theorem test_meets_FailedJournalRequestIsJournalFault_anchor :
    ∀ p ∈ [(Ref.homeFlush, AnchorUpdate.homeFlush), (.anchorWrite, .anchorWrite), (.anchorFlush, .anchorFlush)],
      (anchorFaulting p.1 p.2).PipelineLaw ∧
        (anchorFaulting p.1 p.2).entry 5 = some ⟨5, .write, some 0x1000, p.1, 0, 500⟩ ∧
        (anchorFaulting p.1 p.2).ring.closing = false ∧ (anchorFaulting p.1 p.2).ring.update = p.2 := by
  unfold State.PipelineLaw; decide +kernel

theorem test_meets_WrittenRecordReplaysAsReleased_parts : ∀ h ∈ [slot 0 0x10000 3], h.bytes.length = 64 := by decide +kernel

/-- One entry and 256 entries, whose record ends with the ring. -/
theorem test_meets_WrittenRecordReplaysAsReleased :
    ∀ n ∈ [1, 256], let slots := List.replicate n (slot 0 0x10000 3)
      slots.all (fun h => h.bytes.length = 64) = true ∧ 1 ≤ slots.length ∧ slots.length ≤ 256 ∧
        (65536 - recordLength n) + recordLength slots.length ≤ 65536 := by decide +kernel

/-! ### The ring and its anchors -/

/-- Due by the interval alone; not due one retirement earlier, nor with nothing unanchored; and the grant of the FLUSH. -/
theorem test_meets_AnchorUpdateStartsAndTakesSnapshot :
    let s := anchoring .idle
    (s.ring.update = .idle ∧ s.mode = .online ∧ s.ring.unanchored ≠ 0 ∧ s.settings.anchorInterval ≤ s.ring.retirements) ∧
      (let t := { s with ring := { s.ring with retirements := 15 } };
        ¬(t.settings.anchorInterval ≤ t.ring.retirements ∨ t.ring.spaceRequest = true ∨ t.mode = .draining ∨
          t.ring.again = true)) ∧ online.ring.unanchored = 0 ∧
      let t := { s with ring := { s.ring with update := .homeFlush, toIssue := [(.flush, .homeFlush)] } }
      t.downstream.outstanding.length < 32 ∧
        t.downstream.searchFrom.ringFrom = [.ingress, .writer] ++ .ring :: [.release, .recovery] ∧
        (∀ b ∈ [Port.ingress, .writer], t.presents b = none) ∧ t.ring.toIssue = (.flush, .homeFlush) :: [] ∧
        t.ring.closing = false := by decide +kernel

theorem test_meets_AnchorRequestsLeadTheUpdateOn :
    (let s := sent .flush .homeFlush (anchoring .homeFlush);
      s.entry 5 = some ⟨5, .flush, some 0x1000, .homeFlush, 0, 500⟩ ∧ s.ring.update = .homeFlush ∧
        s.ring.snapshot = some ⟨176, 2, 176⟩) ∧
      (let s := fun n => sent .write .anchorWrite
        { anchoring .anchorWrite with ring := { (anchoring .anchorWrite).ring with writesAcked := n } };
        (s 0).entry 5 = some ⟨5, .write, some 0x1000, .anchorWrite, 0, 500⟩ ∧ (s 0).ring.update = .anchorWrite ∧
          (s 0).ring.writesAcked = 0 ∧ (s 1).ring.writesAcked = 1) ∧
      ∀ p ∈ [(DownKind.flush, Ref.homeFlush), (.write, .anchorWrite), (.flush, .anchorFlush)],
        let s := sent p.1 p.2 online
        s.entry 5 = some ⟨5, p.1, some 0x1000, p.2, 0, 500⟩ ∧ s.ring.update = .idle := by decide +kernel

/-- A snapshot of 176 bytes with a writer that asks again, that does not, and whose batch is full. -/
theorem test_meets_AnchorFlushMovesDurableTail :
    let s := fun n => sent .flush .anchorFlush { toWrite 176 65536 with
      settings := { Settings.cold with flushBatch := n }
      ring := { (toWrite 176 65536).ring with
        update := .anchorFlush, unanchored := 176, snapshot := some ⟨176, 2, 176⟩, spaceRequest := true }
      writer := { (toWrite 0 0).writer with openBatch := [batch 4 1] } }
    (s 2).entry 5 = some ⟨5, .flush, some 0x1000, .anchorFlush, 0, 500⟩ ∧ (s 2).ring.update = .anchorFlush ∧
      (s 2).ring.closing = false ∧ (s 2).ring.snapshot = some ⟨176, 2, 176⟩ ∧ (s 2).ring.spaceRequest = true ∧
      (s 2).writer.active = true ∧ (s 2).mode = .online ∧ (s 2).writer.commitQueue = [3] ∧ (s 2).ctx 3 = queued ∧
      (s 2).writer.openBatch.length < (s 2).settings.flushBatch ∧ ¬((s 1).writer.openBatch.length < (s 1).settings.flushBatch) ∧
      (anchoring .anchorFlush).ring.spaceRequest = false ∧
      (let d := sent .flush .anchorFlush { anchoring .anchorFlush with mode := .draining }
       d.mode = .draining ∧ d.writer.commitQueue = [] ∧ d.writer.openBatch = [] ∧ d.writer.flight = none ∧
         d.release.queue = [] ∧ d.release.releasing = [] ∧ d.ring.snapshot = some ⟨176, 2, 176⟩ ∧
         d.ring.unanchored - 176 = 0) := by decide +kernel

/-- 6.9: the head at 65,376 of a ring whose snapshot frees 336 bytes is granted at offset 0 behind a pad of 160 bytes; with fewer
bytes freed it is refused again. -/
theorem test_anchor_flush_grants_behind_a_pad :
    let s := fun freed => sent .flush .anchorFlush { toWrite 65376 65536 with
      ring := { (toWrite 65376 65536).ring with
        retiredSequence := 0, update := .anchorFlush, unanchored := freed, snapshot := some ⟨336, 1, freed⟩, spaceRequest := true } }
    let t := after (.anchorFlushResponse 5 (.ack [])) (s 336)
    let u := after (.anchorFlushResponse 5 (.ack [])) (s 320)
    (t.ring.head, t.ring.live, t.ring.pendingPad, t.ring.spaceRequest, t.ring.durableOffset) =
        (176, 65536, some ⟨65376, 160⟩, false, 336) ∧
      (u.ring.head, u.ring.live, u.ring.spaceRequest, u.ring.durableOffset) = (65376, 65216, true, 336) := by decide +kernel

/-- The last tail of the largest ring; and, beside a copy of generation 8, others that are not valid, older and as old. -/
theorem test_meets_WrittenAnchorIsChosenBack :
    (30 ≤ 30 ∧ 2 ^ 30 - 16 < 2 ^ 30 ∧ (2 ^ 30 - 16) % 16 = 0) ∧ anchorValid noAnchor 16 0 = false ∧ field goodA 8 8 < 8 ∧
      field goodB 8 8 = 8 := by decide +kernel

/-! ### Release and retirement -/

/-- With 3 and with 4 contexts in the releasing set, and with none. -/
theorem test_meets_ReleaseTakesQueueHead :
    let s := fun set active => hold [slot 0 0x10000 3] (putCtx 3 durable { online with release := ⟨active, [3], set, none⟩ })
    let p := fun c => Progress.mk c 0 0 false false
    (s [p 4, p 5, p 6] true).release.queue = [3] ∧ (s [p 4, p 5, p 6] true).ctx 3 = durable ∧
      (s [p 4, p 5, p 6] true).release.releasing.length < 4 ∧ 4 ≤ (s [p 4, p 5, p 6, p 7] true).release.releasing.length ∧
      (s [] true).release.presented = none ∧ 1 ≤ (s [] true).entryCount 3 ∧ (s [] false).release.active = false := by
  decide +kernel

theorem test_meets_ReleaseAcknowledgementsCounted :
    ∀ ref ∈ [Ref.releaseLine 3, .releaseMarker 3], ∀ active ∈ [true, false],
      let s := sent .write ref { online with release := { Release.cold with active := active } }
      s.entry 5 = some ⟨5, .write, some 0x1000, ref, 0, 500⟩ ∧ s.release.active = active := by decide +kernel

/-- A second context with a line that may be presented, one with a marker write that may, and a set with neither. -/
theorem test_meets_MarkerFollowsAcknowledgedLines :
    ∀ p ∈ [(Progress.mk 4 0 0 false false, some (ReleaseWrite.line 4)), (⟨4, 1, 1, false, false⟩, some (.marker 4)),
        (⟨4, 1, 0, false, false⟩, none)],
      let s := hold [slot 0 0x10000 3, slot 1 0x10040 4] (putCtx 4 releasing (putCtx 3 releasing
        { online with release := { Release.cold with active := true, releasing := [⟨3, 1, 1, true, false⟩, p.1] } }))
      s.release.active = true ∧ s.release.presented = none ∧ (s.release.releasing.map Progress.context).Nodup ∧
        s.entryCount 3 = 1 ∧ s.entryCount 4 = 1 ∧ s.ctx 4 = releasing ∧ s.presentRelease.release.presented = p.2 := by
  decide +kernel

theorem test_meets_FailedReleaseWriteHaltsEngine :
    ∀ p ∈ [(Ref.releaseLine 5, ReleaseDetail.line), (.releaseMarker 5, .marker)],
      let s := { faulting with downstream := (sent .write p.1 online).downstream }
      s.entry 5 = some ⟨5, .write, some 0x1000, p.1, 0, 500⟩ ∧ s.release.active = true ∧
        s.ctx 5 = .releasing owner false marker ⟨1, 0⟩ ∧ ¬(∀ b ∈ s.writer.openBatch, b.toIssue = [] ∧ b.unanswered = 0) ∧
        (∀ b ∈ [batch 3 0], b.toIssue = [] ∧ b.unanswered = 0) := by decide +kernel

/-- With a pad behind the record and with none; with a head that waits, and with a next context that is complete; and the heads that
do not retire. -/
theorem test_meets_FirstCompleteContextRetires :
    complete.release.active = true ∧ complete.release.releasing = [⟨3, 1, 1, true, true⟩] ∧ complete.ctx 3 = releasing ∧
      complete.ingress.wait = none ∧ complete.ring.pendingPad = none ∧
      (∀ w ∈ [HeadWait.slot 4 0x10000, .bare 0 0x10000, .tracking 0],
        (waits w complete).ingress.wait = some w ∧ (match w with | .mode _ => false | _ => true) = true) ∧
      Progress.markerAcked ⟨4, 1, 1, true, true⟩ = true ∧
      { complete.ring with pendingPad := some ⟨176, 65360⟩ }.pendingPad = some ⟨0 + recordLength (complete.entryCount 3), 65360⟩ ∧
      { complete.release with active := false }.active = false ∧ online.release.releasing = [] ∧
      Progress.markerAcked ⟨3, 1, 1, true, false⟩ = false := by decide +kernel

/-! ### Modes, the drain and recovery -/

/-- Both bits of a pair; START outside INIT and WARM_RESET in it; a region past the address space; IRQ bits; a START. -/
theorem test_meets_ControlWriteCarriedOutWholeOrRefused :
    controlWord (.registerWrite 0x0004 0x30) = some 0x30 ∧ controlWord (.start 0) = some 1 ∧
      controlWord (.warmReset 0) = some 4 ∧ controlWord (.irqEnableSet 0) = some 0x10 ∧ controlWord (.format 0) = some 3 ∧
      controlWord (.clearOverflow 0) = some 8 ∧ controlWord (.irqEnableClear 0) = some 0x20 ∧ online.mode ≠ .init ∧
      State.reset.mode = .init ∧ (0x0#48).toNat + 4096 + State.reset.ringSize ≤ 2 ^ 48 ∧
      2 ^ 48 < (0xFFFFFFFF0000#48).toNat + 4096 + State.reset.ringSize ∧
      (0xFFFFFFFEF000#48).toNat + 4096 + State.reset.ringSize = 2 ^ 48 := by decide +kernel

theorem test_meets_WarmResetStopsThenClears :
    (controlWord (.warmReset 0) = some 4 ∧ (4#32).getLsbD 2 = true ∧ (4#32).getLsbD 0 = false ∧
      ((4#32).getLsbD 4 && (4#32).getLsbD 5) = false ∧ ∀ m ∈ [Mode.online, .draining, .drained, .faulted],
        m ≠ .init ∧ m ≠ .recovering) ∧
      (let s := recovering .quiesce;
        s.recovery.phase = .quiesce ∧ s.downstream.outstanding = [] ∧ ∀ h ∈ s.ingress.handOver, h.beforeReset = false) ∧
      online.recovery.phase ≠ .quiesce ∧ (sent .flush .homeFlush (recovering .quiesce)).downstream.outstanding ≠ [] := by
  decide +kernel

/-- The first copy read; the second, with both valid and equal generations, with one valid, and with none. -/
theorem test_meets_AnchorsJudgedWhenBothAreRead :
    (let s := sent (.read 128) (.anchorRead .b) (recovering (.anchors false none none));
      s.entry 5 = some ⟨5, .read 128, some 0x1000, .anchorRead .b, 0, 500⟩ ∧ goodB.length = 128 ∧
        s.recovery.phase = .anchors false none none) ∧
      (∀ format ∈ [true, false], (recovering (.anchors format (some goodA) none)).recovery.phase =
        .anchors format (some goodA) none) ∧
      (anchorValid goodA 16 0 = true ∧ anchorValid noAnchor 16 0 = false ∧ noAnchor.length = 128 ∧
        anchorValid goodB 16 0 = true ∧ field goodA 8 8 < field goodB 8 8 ∧ field goodA 8 8 ≤ field goodA 8 8) := by
  decide +kernel

/-- A pad of 16 bytes at the last offset; a header at the last offset it can stand at; and 16 bytes of neither. -/
theorem test_meets_ScanFollowsOnlyTheNextItem :
    (let s := fun offset => sent (.read 16) .scanRead (recovering (.scan ⟨chosen, offset, 1, 0, [], 0, .item, 0⟩));
      (s 65520).entry 5 = some ⟨5, .read 16, some 0x1000, .scanRead, 0, 500⟩ ∧
        (s 65520).recovery.phase = .scan ⟨chosen, 65520, 1, 0, [], 0, .item, 0⟩ ∧
        (field (padBytes 16 1) 0 4 = 0x4C4A5044 ∧ field (padBytes 16 1) 8 8 = 1 ∧ field (padBytes 16 1) 4 4 = 65536 - 65520 ∧
          (padBytes 16 1).length = 16) ∧
        (field (record.take 16) 0 4 = 0x4C4A5243 ∧ 65472 + 64 ≤ 65536 ∧ (record.take 16).length = 16) ∧
        field (List.replicate 16 0) 0 4 = 0) ∧
      headerPasses (record.take 64) 3 1 0 0 65536 = true ∧ headerPasses (record.take 64) 3 2 0 0 65536 = false ∧
      trailerPasses record = true ∧ trailerPasses (record.take 64 ++ List.replicate 112 0) = false := by decide +kernel

theorem test_meets_ReplayLeadsToTheClosingUpdate :
    (∀ p ∈ [(Ref.replayEntry, scanning (.entries 2) record 2), (.replayEntry, scanning (.entries 1) record 1),
        (.replayMarker, scanning .header record 1), (.replayMarker, scanning .ended record 1),
        (.zeroWrite, .close ⟨none, true, 0, 1, 0, 2⟩), (.zeroWrite, .close ⟨none, true, 0, 1, 0, 1⟩)],
      let s := sent .write p.1 (recovering p.2)
      s.entry 5 = some ⟨5, .write, some 0x1000, p.1, 0, 500⟩ ∧ s.recovery.phase = p.2) ∧
      let q := markerWrite 0x1FFF8 0x02BEEF0000000008
      let s := { State.reset with mode := .recovering, recovery := ⟨scanning .marker record 1, [(q, .replayMarker)]⟩ }
      s.downstream.outstanding.length < 32 ∧
        s.downstream.searchFrom.ringFrom = [.ingress, .writer, .ring, .release] ++ .recovery :: [] ∧
        (∀ b ∈ [Port.ingress, .writer, .ring, .release], s.presents b = none) ∧
        s.recovery.toIssue = (q, .replayMarker) :: [] := by decide +kernel

/-- A closing update whose anchor FLUSH is outstanding, with PFWARN asserted and not. -/
theorem test_meets_ClosingUpdateEndsRecovery :
    ∀ pf ∈ [true, false],
      let s := sent .flush .anchorFlush { recovering (.close ⟨some chosen, false, 352, 503, 2, 0⟩) with
        pfwarn := pf
        ring := { Ring.cold with update := .anchorFlush, closing := true, snapshot := some ⟨352, 503, 0⟩ } }
      s.OpenInMode ∧ s.entry 5 = some ⟨5, .flush, some 0x1000, .anchorFlush, 0, 500⟩ ∧ s.ring.update = .anchorFlush ∧
        s.ring.closing = true ∧ s.recovery.phase = .close ⟨some chosen, false, 352, 503, 2, 0⟩ ∧ s.pfwarn = pf := by
  unfold State.OpenInMode; decide +kernel

/-- A failed request of each phase; two copies that are not valid; and an answer after the fault. -/
theorem test_meets_RecoveryFaultEndsInFaulted :
    (∀ p ∈ [(Ref.anchorRead .a, Phase.anchors true none none), (.scanRead, scanning .item [] 0),
        (.headerRead, scanning .header [] 0), (.bodyRead 64, scanning (.body 1) [] 0),
        (.replayEntry, scanning (.entries 1) record 1), (.replayMarker, scanning .item record 1),
        (.zeroWrite, .close ⟨none, true, 0, 1, 0, 2⟩), (.scanRead, .idle)],
      let s := sent .write p.1 (recovering p.2)
      s.entry 5 = some ⟨5, .write, some 0x1000, p.1, 0, 500⟩ ∧ s.recovery.phase = p.2 ∧ p.1.port = .recovery) ∧
      (∀ p ∈ [(Ref.homeFlush, AnchorUpdate.homeFlush), (.anchorWrite, .anchorWrite), (.anchorFlush, .anchorFlush)],
        let s := sent .flush p.1 { recovering (.close ⟨none, true, 0, 1, 0, 0⟩) with
          ring := { Ring.cold with update := p.2, closing := true } }
        (s.entry 5).map OutEntry.ref = some p.1 ∧ s.ring.update = p.2 ∧ s.ring.closing = true) ∧
      (noAnchor.length = 128 ∧ anchorValid noAnchor 16 0 = false ∧
        (recovering (.anchors false (some noAnchor) none)).recovery.phase = .anchors false (some noAnchor) none) := by
  decide +kernel

/-- A state with a command of every branch of the statement about PFWARN. -/
theorem test_meets_PfwarnStartsAndEndsTheDrain :
    online.pfwarn = false ∧ online.mode = .online ∧ State.reset.mode ≠ .online ∧
      (online.writer.commitQueue = [] ∧ online.writer.openBatch = [] ∧ online.writer.flight = none ∧ online.release.queue = [] ∧
        online.release.releasing = [] ∧ online.ring.unanchored = 0 ∧ online.ring.update = .idle) ∧
      ((anchoring .idle).ring.unanchored ≠ 0 ∧ (anchoring .homeFlush).ring.update ≠ .idle) ∧
      ∀ m ∈ [Mode.draining, .drained, .faulted], { online with mode := m, pfwarn := true }.pfwarn = true := by decide +kernel

theorem test_meets_DrainCompletesWhenNothingIsLeft :
    let s := { online with mode := .draining }
    (s.mode = .draining ∧ s.writer.commitQueue = [] ∧ s.writer.openBatch = [] ∧ s.writer.flight = none ∧
      s.release.queue = [] ∧ s.release.releasing = [] ∧ s.ring.unanchored = 0) ∧ online.mode ≠ .draining := by decide +kernel

/-! ### The management port -/

theorem test_meets_ReadFramesWithAnEffect :
    online.events.entries = [] ∧ (online.push (.drainDone 1)).events.entries = [⟨0, .drainDone 1⟩] := by decide +kernel

/-- Addresses with a register of each kind, and the first and last of those beside them that name none. -/
theorem test_meets_FramesReadAndWriteRegisters :
    (∀ a ∈ [0x0, 0x4, 0x8, 0x40, 0x4C, 0x54, 0x5C, 0x80, 0xA4, 0x100], (online.reads a).isSome = true) ∧
      (∀ i ∈ [0, 12], (win.reads i).isSome = true) ∧ win.reads 13 = none ∧
      online.events.window = none ∧ (after .eventPop (online.push (.drainDone 1))).events.window = some ⟨0, .drainDone 1⟩ ∧
      (∀ a ∈ [0x2, 0x2C, 0x50, 0xA8, 0x138, 0xFFFF], online.reads a = none) ∧
      (∀ c ∈ [0x00#8, 0x01, 0x03, 0x0A, 0x0C, 0xFF], c ≠ 0x0B#8 ∧ c ≠ 0x02#8) := by decide +kernel

/-- Both ends of every range, and one past each end. -/
theorem test_meets_RegisterWriteCheckedThenApplied :
    (∀ p ∈ [(0x88, 16, 30), (0x90, 1, 65535), (0x94, 1, 64), (0x98, 1, 8), (0x9C, 1, 65535), (0xA0, 1, 65535),
        (0xA4, 1, 65535), (0x100, 0, 7), (0x84, 0, 65535)],
      (Settings.cold.written (BitVec.ofNat 32 p.2.1) p.1).isSome = true ∧
        (Settings.cold.written (BitVec.ofNat 32 p.2.2) p.1).isSome = true ∧
        (p.2.1 = 0 ∨ Settings.cold.written (BitVec.ofNat 32 (p.2.1 - 1)) p.1 = none) ∧
        Settings.cold.written (BitVec.ofNat 32 (p.2.2 + 1)) p.1 = none) ∧
      State.reset.mode = .init ∧ online.mode ≠ .init ∧ 0x104 + 4 * 12 = 0x134 ∧
      ¬(0x138 ∈ [0x80, 0x84, 0x88, 0x8C, 0x90]) ∧ ∀ i, i < 13 → 0x138 ≠ 0x104 + 4 * i := by decide +kernel

/-! ### The whole machine -/

/-- A command for each mode that another mode gives way to. -/
def modeChanges : List (Instr × State × Mode) :=
  [(.coldReset, online, .init), (.start 0, State.reset, .recovering), (.warmReset 0, online, .recovering),
    (.badCommandFrame (frameOf 0x02 0x0004 0x04), online, .recovering),
    (.pfwarnDeasserted, { online with mode := .drained, pfwarn := true }, .online), (.pfwarnAsserted, faulting, .draining),
    (.pfwarnAsserted, online, .drained), (.drainComplete, { online with mode := .draining }, .drained),
    (.anchorFlushResponse 5 (.ack []), sent .flush .anchorFlush { anchoring .anchorFlush with mode := .draining }, .drained),
    (.recordWriteResponse 5 .error, faulting, .faulted)]

theorem test_meets_ModeChangesOnlyByItsTransitions :
    ∀ p ∈ modeChanges, p.2.1.EnginesInMode ∧ p.2.1.DrainedIsEmpty ∧
      (match exec p.1 p.2.1 with | .next t => decide (t.mode = p.2.2 ∧ t.mode ≠ p.2.1.mode) | _ => false) = true := by
  simp only [State.EnginesInMode, State.DrainedIsEmpty]; decide +kernel

theorem test_meets_ModeChangesOnlyByItsTransitions_writer : ∀ p ∈ modeChanges, p.2.1.PipelineLaw ∧ p.2.1.WritesOwed := by
  simp only [State.PipelineLaw, State.WritesOwed]; decide +kernel

/-- The journal fault's state with its command in front, and an ingress request whose answer is owed. -/
def running : State :=
  { faulting with
    pending := [.recordWriteResponse 5 .error]
    ingress := { Ingress.cold with
      answers := [⟨0, ⟨2, 9⟩, 2, false⟩], nextAnswer := 1, handOver := [⟨.flush, .pendingAnswer 0, false⟩] }
    tracking := faulting.tracking.set 31 (some ⟨⟨2, 9⟩, 0x10000, 8, []⟩)
    downstream := { faulting.downstream with outstanding := faulting.downstream.outstanding ++
      [⟨6, .write, some 0x4000, .pendingAnswer 0, 0, 500⟩, ⟨7, .read 8, some 0x10000, .tracking 31, 0, 500⟩] } }

theorem test_running_takes_a_step : (match step running with | .next t => decide (t.mode = .faulted) | _ => false) = true := by
  decide +kernel

theorem test_meets_TablesStayWithinBounds : running.WithinDepth ∧ running.TagsDistinct ∧ running.RegistersInRange := by
  unfold State.WithinDepth State.TagsDistinct State.RegistersInRange; decide +kernel

theorem test_meets_EnginesAndBindingsFollowTheMode : running.EnginesInMode ∧ running.OpenInMode ∧ running.BindingsMatch := by
  unfold State.EnginesInMode State.OpenInMode State.BindingsMatch; decide +kernel

theorem test_meets_EnginesAndBindingsFollowTheMode_empty : running.UpdateHasBytes ∧ running.DrainedIsEmpty := by
  unfold State.UpdateHasBytes State.DrainedIsEmpty; decide +kernel

theorem test_meets_RecordWritesStayCounted : running.WritesOwed ∧ running.outstandingFor (.recordWrite 3) = 1 := by
  unfold State.WritesOwed; decide +kernel

theorem test_meets_HoldBufferLawIsKept : running.HoldLaw := by
  unfold State.HoldLaw; decide +kernel

theorem test_meets_CommitPipelineLawIsKept : running.PipelineLaw := by
  unfold State.PipelineLaw; decide +kernel

theorem test_meets_NoAnswerIsLost : running.RefsOfOwners ∧ running.AnswersOwed := by
  refine ⟨by unfold State.RefsOfOwners; decide +kernel, by decide +kernel, by decide +kernel, ?_, by decide +kernel⟩
  intro n hn
  have h : n ≠ 0 := by rintro rfl; exact hn (by decide +kernel)
  simp [State.inFlight, State.outstandingFor, running, faulting, sent, bound, online, State.reset, Ingress.cold, Downstream.cold, h.symm]

theorem test_meets_RingNeverOverfills : running.Lawful :=
  ⟨test_meets_TablesStayWithinBounds.1, test_meets_TablesStayWithinBounds.2.1, test_meets_TablesStayWithinBounds.2.2,
    test_meets_EnginesAndBindingsFollowTheMode.1, test_meets_EnginesAndBindingsFollowTheMode.2.1,
    test_meets_EnginesAndBindingsFollowTheMode.2.2, test_meets_HoldBufferLawIsKept, test_meets_CommitPipelineLawIsKept,
    by unfold State.RingLaw; decide +kernel, test_meets_NoAnswerIsLost.1, test_meets_NoAnswerIsLost.2,
    test_meets_EnginesAndBindingsFollowTheMode_empty.1, test_meets_EnginesAndBindingsFollowTheMode_empty.2,
    test_meets_RecordWritesStayCounted.1⟩

end Sys2Proof.Tests
end

