-- ==== Sys2Proof/Proofs/AnchorStart.lean ====
section
/-! PROOF. The start of an anchor update and the grant of its home FLUSH. -/

namespace Sys2Proof.Proofs.AnchorStart

open Sys2Proof Sys2Proof.Machine

/-! ### The start (R112) -/

/-- ANCHOR_UPDATE_START is the check of the start conditions and nothing else (R112). -/
theorem exec_anchorUpdateStart (s : State) : exec .anchorUpdateStart s =
    .next { s with ring := s.ring.startChecked s.mode s.settings.anchorInterval } :=
  congrArg Host.Outcome.next s.startUpdate_eq

/-! ### The grant (R113, R173) -/

/-- With fewer than 32 requests outstanding, ARBITER_GRANT issues the request of the first requester in ring order that
presents one (R173). -/
theorem exec_arbiterGrant_of_presents {s : State} {before after : List Port} {p : Port} {q : DownRequest} {ref : Ref}
    (hroom : s.downstream.outstanding.length < Config.outstandingDepth)
    (hring : s.downstream.searchFrom.ringFrom = before ++ p :: after)
    (hbefore : ∀ b ∈ before, s.presents b = none) (hp : s.presents p = some (q, ref)) :
    exec .arbiterGrant s = .next ((s.issue p q ref).granted p ref) := by
  have hgrant : s.arbiterGrant = (s.issue p q ref).granted p ref := by
    unfold State.arbiterGrant
    rw [if_pos hroom, State.firstReady_eq hring hbefore hp]
  exact congrArg Host.Outcome.next hgrant

theorem presents_ring_of_toIssue {s : State} {x : DownRequest × Ref} {rest : List (DownRequest × Ref)}
    (h : s.ring.toIssue = x :: rest) : s.presents .ring = some x :=
  congrArg List.head? h

/-- The grant of a home FLUSH takes it out of the ring manager's requests and has the snapshot taken (R113). -/
theorem granted_homeFlush_ring {s : State} {x : DownRequest × Ref} {rest : List (DownRequest × Ref)}
    (q : DownRequest) (h : s.ring.toIssue = x :: rest) :
    ((s.issue .ring q .homeFlush).granted .ring .homeFlush).ring = Ring.takeSnapshot { s.ring with toIssue := rest } := by
  have htail : s.ring.toIssue.tail = rest := by rw [h, List.tail_cons]
  rw [← htail]; rfl

/-! ### The statement -/

/-- Settles O32: the start by the law of the start conditions, and the grant by the ring manager's turn in ring order and what a
grant of the home FLUSH does to it. -/
theorem anchorUpdateStartsAndTakesSnapshot : Obligations.AnchorUpdateStartsAndTakesSnapshot := by
  unfold Obligations.AnchorUpdateStartsAndTakesSnapshot
  constructor
  · intro s due
    rw [exec_anchorUpdateStart]
    unfold Ring.startChecked
    constructor
    · intro (hdue : due)
      rw [if_pos hdue]
    · intro (hidle : ¬due)
      rw [if_neg hidle]
  · intro s before after rest hroom hring hbefore hissue
    refine ⟨_, exec_arbiterGrant_of_presents hroom hring hbefore (presents_ring_of_toIssue hissue), ?_⟩
    rw [granted_homeFlush_ring _ hissue]
    rfl

end Sys2Proof.Proofs.AnchorStart
end

