-- ==== Sys2Proof/Proofs/RecoveryEnd.lean ====
section
/-! PROOF. The acknowledged anchor FLUSH of the closing update and the end of recovery. -/

namespace Sys2Proof.Proofs.RecoveryEnd

open Sys2Proof Sys2Proof.Machine

/-! ### Events (R187) -/

/-- A push changes the event queue alone, as it changes that of any state with the same queue and time. -/
theorem push_eq_of_events {s t : State} (b : EventBody) (he : t.events = s.events) (ht : t.timebase = s.timebase) :
    t.push b = { t with events := (s.push b).events } := by
  rw [State.push_eq t b, State.push_events_congr b he ht]

/-- A list of pushes changes the event queue alone, as it changes that of any state with the same queue and time. -/
theorem pushAll_eq_of_events (bs : List EventBody) {s t : State} (he : t.events = s.events) (ht : t.timebase = s.timebase) :
    t.pushAll bs = { t with events := (s.pushAll bs).events } := by
  induction bs generalizing s t with
  | nil =>
    show t = { t with events := s.events }
    rw [← he]
  | cons b bs ih =>
    have hevents : (t.push b).events = (s.push b).events := State.push_events_congr b he ht
    have htime : (t.push b).timebase = (s.push b).timebase := by rw [State.push_timebase, State.push_timebase, ht]
    show (t.push b).pushAll bs = { t with events := ((s.push b).pushAll bs).events }
    rw [ih hevents htime, State.push_eq t b]

/-- What a list of pushes does to the event queue depends on the queue and the timebase alone. -/
theorem pushAll_events_congr {s t : State} (bs : List EventBody) (he : s.events = t.events) (ht : s.timebase = t.timebase) :
    (s.pushAll bs).events = (t.pushAll bs).events := by
  rw [pushAll_eq_of_events bs he ht]

/-! ### Modes that end the mode wait (R139, R144) -/

/-- A change to ONLINE or DRAINING pushes MODE_CHANGE and ends a mode wait of the head. -/
theorem setMode_of_carriesCommits {m : Mode} (s : State) (h : m = .online ∨ m = .draining) : s.setMode m =
    { s with
      events := (s.push (.modeChange m s.mode)).events
      mode := m
      ingress := { s.ingress with wait := s.ingress.wait.filter fun w => !w.onMode } } := by
  have hwait : s.setMode m = State.endWait { s.push (.modeChange m s.mode) with mode := m } HeadWait.onMode := by
    obtain rfl | rfl := h <;> rfl
  rw [hwait, State.endWait_eq, State.push_eq]

/-! ### Entering DRAINING with nothing left to drain (R181, R183) -/

/-- With no context OPEN there is none to fail (R37). -/
theorem failOpen_of_noneOpen {s : State} (r : FailReason) (h : ∀ c, (s.ctx c).isOpen = false) : s.failOpen r = s :=
  List.foldl_fixed' (fun c => State.failContext_of_not_open r none (h c)) Config.contexts

/-- With no update in flight and nothing unanchored the entry to DRAINING starts no anchor update (R112, R181). -/
theorem drainTrigger_of_anchored {s : State} (hidle : s.ring.update = .idle) (hnone : s.ring.unanchored = 0) :
    s.drainTrigger = s := by
  unfold State.drainTrigger
  rw [if_pos hidle, State.startUpdate_eq, Ring.startChecked_of_anchored _ _ hnone]

/-- Where no context is OPEN, no update is in flight and the drain finds nothing left, the entry to DRAINING goes on to DRAINED
in the same step. -/
theorem enterDraining_of_drained {s : State} (hopen : ∀ c, (s.ctx c).isOpen = false) (hidle : s.ring.update = .idle)
    (hdone : State.drainDone { s with mode := .draining } = true) : s.enterDraining =
    { s with
      events := (s.pushAll
        [.modeChange .draining s.mode, .modeChange .drained .draining, .drainDone s.ring.durableSequence]).events
      mode := .drained
      ingress := { s.ingress with wait := s.ingress.wait.filter fun w => !w.onMode } } := by
  obtain ⟨-, -, -, -, -, -, hanchored⟩ := (State.drainDone_iff _).1 hdone
  have hmode := setMode_of_carriesCommits s (m := .draining) (.inr rfl)
  unfold State.enterDraining
  rw [hmode, failOpen_of_noneOpen, drainTrigger_of_anchored, State.drainCheck_of_done,
    pushAll_eq_of_events _ (s := s.push (.modeChange .draining s.mode)) ?_ ?_]
  · rfl
  · rfl
  · exact (State.push_timebase s _).symm
  · exact hdone
  · exact hidle
  · exact hanchored
  · exact hopen

/-! ### The end of recovery (R157, R158) -/

/-- The state at the completion of the closing update before the change of mode: RECOVERY_DONE is pushed, the in-doubt COMMITs
are answered, the ring resumes at the end of the scan, and the writer and the release engine are ACTIVE with nothing queued. -/
def engineRestart (s : State) (k : Close) : State :=
  { s with
    events := (s.push (.recoveryDone k.endSequence k.replayed)).events
    upOut := s.upOut ++ s.inDoubt.map fun d => ⟨d.requester, verdict k.endSequence d⟩
    inDoubt := []
    ring := s.ring.resume k
    writer := ⟨true, [], [], none⟩
    release := ⟨true, [], [], none⟩
    recovery := ⟨.idle, []⟩ }

/-- With the ring resumed, the end of recovery is the restart of the engines and the mode change that PFWARN calls for. -/
theorem finishRecovery_resumed (s : State) (k : Close) :
    State.finishRecovery { s with ring := s.ring.resume k } k =
      if s.pfwarn then (engineRestart s k).enterDraining else (engineRestart s k).setMode .online := by
  have hpush : (State.settleInDoubt { s with ring := s.ring.resume k } (verdict k.endSequence)).push _ = _ :=
    push_eq_of_events (.recoveryDone k.endSequence k.replayed) (s := s) rfl rfl
  unfold State.finishRecovery
  rw [hpush]
  rfl

/-- The engines restarted, the drain check finds nothing left. -/
theorem drainDone_engineRestart (s : State) (k : Close) :
    State.drainDone { engineRestart s k with mode := .draining } = true := by
  rw [State.drainDone_iff]
  exact ⟨rfl, rfl, rfl, rfl, rfl, rfl, rfl⟩

/-- What is pushed after the restart follows RECOVERY_DONE; that an entry has left the port makes no difference. -/
theorem pushAll_engineRestart_events (s : State) (tag : XferTag) (k : Close) (bs : List EventBody) :
    ((engineRestart (s.removeEntry tag) k).pushAll bs).events =
      (s.pushAll (.recoveryDone k.endSequence k.replayed :: bs)).events :=
  pushAll_events_congr (t := s.push (.recoveryDone k.endSequence k.replayed)) bs (State.push_events_congr _ rfl rfl)
    (State.push_timebase s _).symm

/-- In CLOSE no context is OPEN: the table was cleared before the anchors were read (R148). -/
theorem noneOpen_of_close {s : State} {k : Close} (hlaw : s.OpenInMode) (hphase : s.recovery.phase = .close k)
    (c : ContextIx) : (s.ctx c).isOpen = false := by
  have hfree : (s.ctx c).isFree = true := hlaw.2 (.inr (by rw [hphase]; rfl)) c
  cases hc : s.ctx c with
  | free => rfl
  | _ => rw [hc] at hfree; cases hfree

/-- The acknowledged anchor FLUSH of the closing update takes its entry from the port and ends recovery (R120, R158, R176). -/
theorem exec_anchorFlushResponse_of_closing {s : State} {tag : XferTag} {e : OutEntry} {k : Close} (data : List Byte)
    (hentry : s.entry tag = some e) (href : e.ref = .anchorFlush) (hkind : e.kind = .flush)
    (hupdate : s.ring.update = .anchorFlush) (hclosing : s.ring.closing = true) (hphase : s.recovery.phase = .close k) :
    exec (.anchorFlushResponse tag (.ack data)) s = .next
      (if s.pfwarn then (engineRestart (s.removeEntry tag) k).enterDraining
        else (engineRestart (s.removeEntry tag) k).setMode .online) := by
  have hdeliver : (s.removeEntry tag).deliver e (.ack data) = (s.removeEntry tag).completeUpdate := by
    unfold State.deliver State.anchorFlushAnswer
    simp only [href, State.removeEntry_ring, hupdate]
  have hcomplete : (s.removeEntry tag).completeUpdate =
      State.finishRecovery { s.removeEntry tag with ring := (s.removeEntry tag).ring.resume k } k := by
    unfold State.completeUpdate
    simp only [State.removeEntry_ring, State.removeEntry_recovery, hclosing, hphase, if_true]
  show s.respond (fun ref => ref = .anchorFlush) tag (.ack data) = _
  rw [State.respond_of_entry hentry (by simp [href]) (by simp [hkind]), hdeliver, hcomplete, finishRecovery_resumed,
    State.removeEntry_pfwarn]

/-! ### The statement -/

/-- Settles O46: the answer restarts the engines, and the change of mode follows PFWARN: to DRAINING, which finds every context
FREE and the ring empty, so that the drain is complete at once, or to ONLINE. -/
theorem closingUpdateEndsRecovery : Obligations.ClosingUpdateEndsRecovery := by
  unfold Obligations.ClosingUpdateEndsRecovery
  intro s tag e data k hlaw hentry href hkind hupdate hclosing hphase changes
  have hopen (c : ContextIx) : (s.ctx c).isOpen = false := noneOpen_of_close hlaw hphase c
  have hafter := pushAll_engineRestart_events s tag k
  rw [exec_anchorFlushResponse_of_closing data hentry href hkind hupdate hclosing hphase,
    pushAll_eq_of_events _ (s := s) rfl rfl]
  by_cases hp : s.pfwarn = true
  · have hchanges : changes = [.modeChange .draining s.mode, .modeChange .drained .draining, .drainDone k.endSequence] :=
      if_pos hp
    rw [if_pos hp, if_pos hp, enterDraining_of_drained (s := engineRestart (s.removeEntry tag) k) hopen rfl
      (drainDone_engineRestart _ k), hafter, hchanges]
    rfl
  · have hchanges : changes = [.modeChange .online s.mode] := if_neg hp
    rw [if_neg hp, if_neg hp, setMode_of_carriesCommits _ (.inl rfl), hchanges, ← hafter]
    rfl

end Sys2Proof.Proofs.RecoveryEnd
end

