-- ==== Sys2Proof/Proofs/EventLines.lean ====
section
/-! PROOF. The push to the event queue and the output lines. -/

namespace Sys2Proof.Proofs.EventLines

open Sys2Proof Sys2Proof.Machine

/-- IRQ is high by either of its two conditions (R191). -/
theorem irqPin_iff (s : State) :
    s.irqPin = true ↔ (s.events.entries ≠ [] ∧ s.settings.irqEnable = true) ∨ s.mode = .faulted := by
  unfold State.irqPin
  simp only [Bool.or_eq_true, Bool.and_eq_true, decide_eq_true_eq]

/-- DRAINED is high in the mode DRAINED alone (R186). -/
theorem drainedPin_iff (s : State) : s.drainedPin = true ↔ s.mode = .drained := decide_eq_true_iff

/-- IRQ is low after cold reset: the queue is empty and the mode is INIT (R191). -/
theorem reset_irqPin : State.reset.irqPin = false := by
  refine Bool.eq_false_iff.mpr fun h => ?_
  obtain ⟨hentries, -⟩ | hmode := (irqPin_iff _).mp h
  · exact hentries rfl
  · cases hmode

/-- DRAINED is low after cold reset: the mode is INIT (R186). -/
theorem reset_drainedPin : State.reset.drainedPin = false := by
  refine Bool.eq_false_iff.mpr fun h => ?_
  cases (drainedPin_iff _).mp h

/-! ### The statement -/

/-- Settles O6: a push by the two cases of its occupancy, and each output line by its conditions, none of which holds after
cold reset. -/
theorem eventPushAndOutputLines : Obligations.EventPushAndOutputLines := by
  unfold Obligations.EventPushAndOutputLines
  refine ⟨fun s b => ⟨fun hroom => ?_, fun hfull => ?_⟩, irqPin_iff, drainedPin_iff, reset_irqPin, reset_drainedPin⟩
  · exact State.push_of_room b hroom
  · exact State.push_of_full b (Nat.not_lt.mpr hfull)

end Sys2Proof.Proofs.EventLines
end

section
namespace Sys2Proof.Proofs.StepAndReset
open Sys2Proof Sys2Proof.Machine

/-! ### One step -/

/-- Settles O1: the step's own equation on a queue that is not empty. -/
theorem stepTakesFrontCommand : Obligations.StepTakesFrontCommand := by
  unfold Obligations.StepTakesFrontCommand
  intro c rest s hp
  unfold step
  rw [hp]

theorem step_of_idle {s : State} (h : s.pending = []) : step s = .next s.tick := by
  unfold step; rw [h]

theorem run_succ_of_next (M : Host.Core) (k : Nat) {s t : M.State} (h : M.step s = .next t) :
    M.run (k + 1) s = M.run k t := by
  conv_lhs => unfold Host.Core.run
  rw [h]

/-- From `n + 1` periods left, that many idle steps end with the first one of the next microsecond ("Time base"). -/
theorem run_ticks (n : Nat) : ∀ s : State, s.pending = [] → s.refclkLeft = n + 1 →
    Host.Core.run Sys2Proof.core (n + 1) s =
      .next { s with timebase := s.timebase + 1, refclkLeft := s.settings.timebaseDiv } := by
  induction n with
  | zero =>
    intro s hp hl
    rw [run_succ_of_next core 0 (step_of_idle hp), State.tick, if_pos (by omega)]
    rfl
  | succ n ih =>
    intro s hp hl
    rw [run_succ_of_next core (n + 1) (step_of_idle hp), State.tick, if_neg (by omega)]
    exact ih { s with refclkLeft := s.refclkLeft - 1 } hp (Nat.sub_eq_of_eq_add hl)

/-- Settles O2: one idle step is a tick, and the periods of one microsecond count down to its end. -/
theorem idleStepsCountMicroseconds : Obligations.IdleStepsCountMicroseconds := by
  unfold Obligations.IdleStepsCountMicroseconds
  refine ⟨fun s hp => step_of_idle hp, fun s hp hdiv hleft => ?_⟩
  obtain ⟨n, hn⟩ := Nat.exists_eq_add_of_le' hdiv
  rw [hn] at hleft ⊢
  rw [run_ticks n s hp hleft, hn, ← hleft]

/-! ### Stops -/

/-- Every answer of the memory is a response to the entry of its tag. -/
theorem exec_of_responseOf {c : Instr} {tag : XferTag} {r : DownResponse} (h : responseOf c = some (tag, r)) (s : State) :
    ∃ mine, exec c s = s.respond mine tag r := by
  cases c <;> simp only [responseOf, Option.some.injEq, Prod.mk.injEq, reduceCtorEq] at h <;>
    obtain ⟨rfl, rfl⟩ := h <;>
    simp only [exec, execRecordWriteResponse, execRecordFlushResponse, execReleaseWriteResponse, execHomeFlushResponse,
      execAnchorWriteResponse, execAnchorFlushResponse, execReadResponse, execIngressResponse, execLateResponseDiscard,
      execAnchorReadResponse, execScanReadResponse, execRecordReadResponse, execReplayWriteResponse] <;>
    exact ⟨_, rfl⟩

/-- A command that is no answer of the memory and no request of an initiator is always carried out. -/
theorem exec_next_of_no_response {c : Instr} (h : responseOf c = none) (hr : ∀ r, c ≠ .upstreamRequest r) (s : State) :
    ∃ t, exec c s = .next t := by
  cases c <;> simp only [responseOf, reduceCtorEq] at h <;> first | exact ⟨_, rfl⟩ | exact absurd rfl (hr _)

/-- Only an acknowledged READ with another number of bytes does not fit (9.4). -/
theorem fits_eq_false {k : DownKind} {r : DownResponse} (h : k.fits r = false) :
    ∃ n data, k = .read n ∧ r = .ack data ∧ data.length ≠ n := by
  cases k with
  | read n =>
    cases r with
    | ack data => exact ⟨n, data, rfl, rfl, by simpa using h⟩
    | error => simp at h
  | write => simp at h
  | flush => simp at h

/-- Settles O3: a request is taken or ill-formed, an answer fits its entry or stops, and no other command stops. -/
theorem onlyMisfitDataStops : Obligations.OnlyMisfitDataStops := by
  unfold Obligations.OnlyMisfitDataStops
  intro c s
  by_cases hreq : ∃ r, c = .upstreamRequest r
  · obtain ⟨r, rfl⟩ := hreq
    by_cases hw : r.WellFormed = true
    · exact .inl ⟨s.accept r, if_pos hw⟩
    · exact .inr (.inl ⟨if_neg hw, Bool.eq_false_iff.mpr hw⟩)
  · cases hresp : responseOf c with
    | none => exact .inl (exec_next_of_no_response hresp (fun r h => hreq ⟨r, h⟩) s)
    | some x =>
      obtain ⟨tag, r⟩ := x
      obtain ⟨mine, hexec⟩ := exec_of_responseOf hresp s
      rw [hexec]
      obtain hnext | ⟨e, hentry, -, ⟨-, hnext⟩ | ⟨hfits, hfault⟩⟩ := s.respond_cases mine tag r
      · exact .inl ⟨s, hnext⟩
      · exact .inl ⟨_, hnext⟩
      · obtain ⟨n, data, hkind, rfl, hlen⟩ := fits_eq_false hfits
        exact .inr (.inr ⟨hfault, tag, data, e, n, rfl, hentry, hkind, hlen⟩)

/-! ### Cold reset -/

theorem reset_ctx (c : ContextIx) : State.reset.ctx c = .free := Vector.getElem_replicate ..

/-- Settles O4: the next state is the reset state with two fields kept. -/
theorem coldResetReturnsResetState : Obligations.ColdResetReturnsResetState := by
  unfold Obligations.ColdResetReturnsResetState
  exact fun s => ⟨_, rfl, rfl, reset_ctx, rfl, rfl, rfl, rfl⟩

theorem reset_window (w : WindowIx) : State.reset.window w = Window.cold := Vector.getElem_replicate ..

theorem reset_trackEntry (k : EntryNo) : State.reset.trackEntry k = none := Vector.getElem_replicate ..

/-- Settles O5: every table and queue is empty, every context FREE, and the registers hold values of their ranges. -/
theorem resetStateIsLawful : Obligations.ResetStateIsLawful := by
  unfold Obligations.ResetStateIsLawful
  constructor
  case withinDepth => exact ⟨Nat.zero_le _, Nat.zero_le _, Nat.zero_le _, Nat.zero_le _, Nat.zero_le _⟩
  case tagsDistinct => exact List.nodup_nil
  case registersInRange =>
    refine ⟨rfl, by decide, by decide, by decide, by decide, by decide, by decide, by decide, fun w => ?_⟩
    rw [reset_window]; decide
  case enginesInMode => exact ⟨by decide, nofun, nofun, nofun, fun h => absurd rfl h⟩
  case openInMode => exact ⟨fun _ c => by rw [reset_ctx]; rfl, fun _ c => by rw [reset_ctx]; rfl⟩
  case bindingsMatch =>
    exact ⟨List.Pairwise.nil, fun _ hb => absurd hb List.not_mem_nil, fun _ c h => absurd h (by rw [reset_ctx]; decide)⟩
  case holdLaw => exact ⟨List.nodup_nil, fun _ hb => absurd hb List.not_mem_nil, List.Pairwise.nil⟩
  case pipelineLaw =>
    refine ⟨List.nodup_nil, fun c => ?_, rfl, by decide⟩
    rw [reset_ctx]
    exact ⟨by decide +revert, by decide +revert, by decide +revert, by decide +revert⟩
  case ringLaw => exact ⟨Nat.zero_le _, Nat.zero_le _, nofun, fun _ => rfl⟩
  case refsOfOwners => exact ⟨nofun, nofun, nofun⟩
  case answersOwed =>
    refine ⟨List.nodup_nil, nofun, fun _ _ => rfl, fun k => ?_⟩
    rw [reset_trackEntry]; rfl
  case updateHasBytes => exact fun h => absurd rfl h
  case drainedIsEmpty => exact nofun
  case writesOwed => exact ⟨nofun, fun _ => ⟨rfl, rfl, nofun⟩⟩

/-! ### The end of the drain -/

/-- Settles O49: DRAIN_COMPLETE is the drain check, which acts exactly where nothing is left. -/
theorem drainCompletesWhenNothingIsLeft : Obligations.DrainCompletesWhenNothingIsLeft := by
  unfold Obligations.DrainCompletesWhenNothingIsLeft
  intro s done
  have hiff : s.drainDone = true ↔ done := s.drainDone_iff
  refine ⟨fun h => ?_, fun h => ?_⟩
  · exact congrArg Host.Outcome.next (State.drainCheck_of_not (Bool.eq_false_iff.mpr (mt hiff.1 h)))
  · exact congrArg Host.Outcome.next (State.drainCheck_of_done (hiff.2 h))

end Sys2Proof.Proofs.StepAndReset
end

section
/-! PROOF. Answers of the memory and the expiry of timers: what each leads to in its owner's block. -/

namespace Sys2Proof.Proofs.Answers
open Sys2Proof Sys2Proof.Machine Sys2Proof.Proofs.RecoveryEnd

/-! ### An answer reaches its owner (R175, R176) -/

/-- The owner's own command takes the answer of an entry out of the port and has the owner handle it (R176). -/
theorem exec_responseCommand {s : State} {tag : XferTag} {e : OutEntry} {r : DownResponse} (h : s.entry tag = some e)
    (hf : e.kind.fits r = true) : exec (e.ref.responseCommand tag r) s = .next ((s.removeEntry tag).deliver e r) := by
  cases href : e.ref <;>
    simp only [Ref.responseCommand, exec, execRecordWriteResponse, execRecordFlushResponse, execReleaseWriteResponse,
      execHomeFlushResponse, execAnchorWriteResponse, execAnchorFlushResponse, execReadResponse, execIngressResponse,
      execAnchorReadResponse, execScanReadResponse, execRecordReadResponse, execReplayWriteResponse] <;>
    exact State.respond_of_entry h (by rw [href]; rfl) hf

theorem entry_eq_none_of_untagged {s : State} {tag : XferTag} (h : ∀ e ∈ s.downstream.outstanding, e.tag ≠ tag) :
    s.entry tag = none := State.entry_eq_none.mpr h

/-- Settles O26: with no entry nothing answers, and a due expiry delivers an error to the owner, as its error response does. -/
theorem timeoutActsAsErrorAndLateIsDiscarded : Obligations.TimeoutActsAsErrorAndLateIsDiscarded := by
  unfold Obligations.TimeoutActsAsErrorAndLateIsDiscarded
  refine ⟨fun c s tag r hc hnone => ?_, fun s tag hnone => ?_, fun s tag e hentry => ⟨fun hearly => ?_, fun hdue => ?_⟩⟩
  · obtain ⟨mine, hexec⟩ := StepAndReset.exec_of_responseOf hc s
    rw [hexec, State.respond_of_none mine r (entry_eq_none_of_untagged hnone)]
  · show Host.Outcome.next (s.responseTimeout tag) = _
    unfold State.responseTimeout
    rw [entry_eq_none_of_untagged hnone]
  · show Host.Outcome.next (s.responseTimeout tag) = _
    unfold State.responseTimeout State.expired
    simp only [hentry, decide_eq_true_eq, if_neg (Nat.not_le.mpr hearly)]
  · refine ⟨s.responseTimeout tag, rfl, ?_⟩
    rw [exec_responseCommand (by rw [State.push_entry]; exact hentry) (DownKind.fits_error _), State.push_removeEntry]
    unfold State.responseTimeout State.expired
    simp only [hentry, decide_eq_true_eq, if_pos hdue]

/-- Settles O24: the answer is counted in its pending answer, of which the last one answers the request. -/
theorem ingressResponseCounts : Obligations.IngressResponseCounts := by
  unfold Obligations.IngressResponseCounts
  intro s tag e id p response hentry href hfind hfit taken failed
  have hfits : e.kind.fits response = true := by
    cases hk : e.kind with
    | read n =>
      cases response with
      | ack data => simpa using hfit n data hk rfl
      | error => rfl
    | write => simp
    | flush => simp
  have hexec := exec_responseCommand hentry hfits
  rw [href] at hexec
  have hcount : (s.removeEntry tag).deliver e response = (s.removeEntry tag).countAnswer id e.kind response := by
    unfold State.deliver; rw [href]
  rw [hcount] at hexec
  unfold State.countAnswer at hexec
  simp only [State.removeEntry_ingress, hfind] at hexec
  refine ⟨fun hmore => hexec.trans ?_, fun hlast => ?_⟩
  · rw [if_neg (by omega)]; rfl
  · change exec (.ingressResponse tag response) s = _
    rw [if_pos hlast] at hexec
    refine hexec.trans ?_
    cases hfailed : failed <;> simp only [failed] at hfailed <;> simp only [hfailed] <;> cases e.kind <;> cases response <;> rfl

/-! ### Record writes (R92, R93, R98) -/

theorem written_iff (b : BatchRecord) : b.written = true ↔ b.toIssue = [] ∧ b.unanswered = 0 := by
  simp [BatchRecord.written]

/-- When a record flush is due (R93). -/
theorem flushDue_iff (s : State) : s.flushDue = true ↔ s.writer.active = true ∧ s.writer.openBatch ≠ [] ∧
    (∀ b ∈ s.writer.openBatch, b.toIssue = [] ∧ b.unanswered = 0) ∧ s.writer.flight = none ∧
    (s.settings.flushBatch ≤ s.writer.openBatch.length ∨ s.writer.commitQueue = [] ∨ s.ring.spaceRequest = true ∨
      ¬(s.mode = .online ∨ s.mode = .draining)) := by
  have hstuck : s.canTakeHead = false ↔ s.writer.commitQueue = [] ∨ s.ring.spaceRequest = true ∨
      ¬(s.mode = .online ∨ s.mode = .draining) := by
    rw [← Mode.carriesCommits_iff, Bool.not_eq_true]
    unfold State.canTakeHead
    simp only [Bool.and_eq_false_iff, decide_eq_false_iff_not, not_not, Bool.not_eq_false', or_assoc]
  simp only [State.flushDue, Bool.and_eq_true, Bool.or_eq_true, decide_eq_true_eq, List.all_eq_true, written_iff,
    Bool.not_eq_true', hstuck, and_assoc]

/-- The writer once the open batch has moved to the flush in flight (R93). -/
theorem checkFlush_of_due {s : State} (h : s.flushDue = true) : s.checkFlush = { s with writer := { s.writer with
    openBatch := [], flight := some ⟨s.writer.openBatch.map BatchRecord.context, true⟩ } } := if_pos h

theorem checkFlush_of_not {s : State} (h : ¬s.flushDue = true) : s.checkFlush = s := if_neg h

/-- Settles O28: the acknowledgement is counted for its record, and the check of R93 follows. -/
theorem recordWriteAcknowledgedFlushesBatch : Obligations.RecordWriteAcknowledgedFlushesBatch := by
  unfold Obligations.RecordWriteAcknowledgedFlushesBatch
  intro s tag e c hentry href hkind taken batch stuck flush
  have hexec (r : DownResponse) : exec (.recordWriteResponse tag r) s = .next (taken.recordWriteAnswer c e.address r) := by
    have h := exec_responseCommand (r := r) hentry (by simp [hkind])
    unfold State.deliver at h
    rwa [href] at h
  refine ⟨fun r hstopped => ?_, fun data hactive => ?_⟩
  · rw [hexec]
    exact congrArg Host.Outcome.next (if_neg (by simpa using hstopped))
  · have hcounted : taken.recordWriteAnswer c e.address (.ack data) = (taken.countRecordWrite c).checkFlush :=
      if_pos hactive
    have hdue : (taken.countRecordWrite c).flushDue = true ↔ flush :=
      (flushDue_iff _).trans ⟨fun h => h.2, fun h => ⟨hactive, h⟩⟩
    rw [hexec, hcounted]
    exact ⟨fun h => congrArg Host.Outcome.next (checkFlush_of_due (hdue.mpr h)),
      fun h => congrArg Host.Outcome.next (checkFlush_of_not (mt hdue.mp h))⟩

/-! ### Requests of an anchor update (R114, R116) -/

/-- Settles O33: each answer of a request of the update in flight, and of one whose update was abandoned. -/
theorem anchorRequestsLeadTheUpdateOn : Obligations.AnchorRequestsLeadTheUpdateOn := by
  unfold Obligations.AnchorRequestsLeadTheUpdateOn
  intro s tag e data response hentry taken
  have hexec (r : DownResponse) (hf : e.kind.fits r = true) := exec_responseCommand (r := r) hentry hf
  unfold State.deliver at hexec
  refine ⟨fun href hkind => ?_, fun href hkind => ?_, fun href hkind => ?_⟩ <;> rw [href, hkind] at hexec
  · refine ⟨fun k hupdate hsnap => (hexec (.ack data) (by simp)).trans ?_, fun hidle => (hexec response (by simp)).trans ?_⟩
    · simp only [State.homeFlushAnswer, State.removeEntry_ring, hupdate, State.anchorWrites, hsnap, Option.getD_some]
      rfl
    · simp only [State.homeFlushAnswer, State.removeEntry_ring, hidle]
      rfl
  · refine ⟨fun hupdate hacked => (hexec (.ack data) (by simp)).trans ?_,
      fun hupdate hacked => (hexec (.ack data) (by simp)).trans ?_, fun hidle => (hexec response (by simp)).trans ?_⟩
    · simp only [State.anchorWriteAnswer, State.removeEntry_ring, hupdate, hacked, if_true]
      rfl
    · simp only [State.anchorWriteAnswer, State.removeEntry_ring, hupdate, hacked, Nat.one_ne_zero, if_false]
      rfl
    · simp only [State.anchorWriteAnswer, State.removeEntry_ring, hidle]
      rfl
  · refine fun hidle => (hexec response (by simp)).trans ?_
    simp only [State.anchorFlushAnswer, State.removeEntry_ring, hidle]
    rfl

/-! ### Release writes (R123, R125, R126) -/

/-- An ACTIVE engine keeps a presented write, and otherwise presents the ready one (R125). -/
theorem presentRelease_of_active {s : State} (h : s.release.active = true) : s.presentRelease =
    { s with release := { s.release with
        presented := s.release.presented.or (readyWrite s.entryCount s.release.releasing true true) } } := by
  unfold State.presentRelease
  by_cases hp : s.release.presented = none
  · rw [if_pos (by simp [h, hp]), hp]; rfl
  · obtain ⟨w, hw⟩ := Option.ne_none_iff_exists'.mp hp
    have hkeep : s.release.presented.or (readyWrite s.entryCount s.release.releasing true true) = s.release.presented := by
      rw [hw]; rfl
    rw [if_neg (by simp [hp]), hkeep]

/-- Settles O36: the head of the release queue joins the releasing set where there is room. -/
theorem releaseTakesQueueHead : Obligations.ReleaseTakesQueueHead := by
  unfold Obligations.ReleaseTakesQueueHead
  intro s c rest o f m pl hqueue hctx releasing
  refine ⟨fun hactive hroom => ?_, fun hfull => ?_⟩
  · refine congrArg Host.Outcome.next ?_
    unfold State.takeDurable
    simp only [hqueue, hctx]
    rw [if_pos (by simp only [hactive, Bool.true_and, decide_eq_true_eq]; exact hroom)]
    exact presentRelease_of_active hactive
  · refine congrArg Host.Outcome.next ?_
    unfold State.takeDurable
    simp only [hqueue, hctx]
    refine if_neg fun h => ?_
    simp only [Bool.and_eq_true, decide_eq_true_eq] at h
    obtain hhalted | hlen := hfull
    · rw [hhalted] at h; cases h.1
    · exact absurd h.2 (Nat.not_lt.mpr hlen)

/-- Settles O37: the count of the acknowledged write, with the ready write presented behind it. -/
theorem releaseAcknowledgementsCounted : Obligations.ReleaseAcknowledgementsCounted := by
  unfold Obligations.ReleaseAcknowledgementsCounted
  intro s tag e c data hentry hkind taken counted
  have hexec (r : DownResponse) := exec_responseCommand (r := r) hentry (by simp [hkind])
  unfold State.deliver at hexec
  have hcounted (update : Progress → Progress) (hactive : s.release.active = true) :
      (taken.updateProgress c update).presentRelease = counted update :=
    presentRelease_of_active (s := taken.updateProgress c update) hactive
  refine ⟨fun href hhalted r => ?_, fun hactive => ⟨fun href => ?_, fun href => ?_⟩⟩
  · obtain href | href := href <;> rw [href] at hexec <;> refine (hexec r).trans (congrArg Host.Outcome.next ?_)
    · exact if_neg (by simpa using hhalted)
    · exact if_neg (by simpa using hhalted)
  · rw [href] at hexec
    refine (hexec (.ack data)).trans (congrArg Host.Outcome.next (.trans (if_pos hactive) (hcounted _ hactive)))
  · rw [href] at hexec
    refine (hexec (.ack data)).trans (congrArg Host.Outcome.next (.trans (if_pos hactive) (hcounted _ hactive)))

end Sys2Proof.Proofs.Answers
end

section
/-! PROOF. The context timers, the stall timer, ABORT markers and the ingress queue. -/

namespace Sys2Proof.Proofs.HeadAndTimers
open Sys2Proof Sys2Proof.Machine Sys2Proof.Proofs.RecoveryEnd

/-! ### The context timers (R29, R31) -/

theorem expired_iff (s : State) (start : Word64) (n : Nat) : s.expired start n = true ↔ start.toNat + n ≤ s.timebase.toNat := by
  simp [State.expired]

/-- An idle timer is due exactly where it runs, has a length and has reached it (R29). -/
theorem idleDue_iff {s : State} {c : ContextIx} {o : Owner} {f : Bool} {since : Word64}
    (h : s.ctx c = .opened o f since true) : s.idleDue c = true ↔ (s.window o.window).idleTimeout.toNat ≠ 0 ∧
      since.toNat + (s.window o.window).idleTimeout.toNat ≤ s.timebase.toNat := by
  have hz : (s.window o.window).idleTimeout ≠ 0 ↔ (s.window o.window).idleTimeout.toNat ≠ 0 :=
    not_congr (BitVec.toNat_inj (y := 0#16)).symm
  simp only [State.idleDue, h, Bool.and_eq_true, decide_eq_true_eq, expired_iff, hz]

theorem idleDue_of_no_timer {s : State} {c : ContextIx} (h : ∀ o f since, s.ctx c ≠ .opened o f since true) :
    s.idleDue c = false := by
  unfold State.idleDue
  split
  · rename_i o f since heq; exact absurd heq (h o f since)
  · rfl

/-- Settles O13: a due expiry is the failure or the freeing of its context, and any other changes nothing. -/
theorem contextTimersExpire : Obligations.ContextTimersExpire := by
  unfold Obligations.ContextTimersExpire
  refine ⟨fun s c o f since hctx => ?_, fun s c hno => ?_, fun s c o why since ms hctx => ?_, fun s c hno => ?_⟩
  · intro timeout
    refine ⟨fun hlong hdue => congrArg Host.Outcome.next ?_, fun hnot => congrArg Host.Outcome.next (if_neg ?_)⟩
    · refine (if_pos ((idleDue_iff hctx).mpr ⟨hlong, hdue⟩)).trans ?_
      rw [State.failContext_eq_afterFailure _ _ hctx, push_eq_of_events (s := s)]
      · rfl
      · rfl
    · rw [idleDue_iff hctx]
      rintro ⟨hlong, hdue⟩
      exact hnot.elim hlong (fun hearly => absurd hdue (Nat.not_le.mpr hearly))
  · exact congrArg Host.Outcome.next (if_neg (by rw [idleDue_of_no_timer hno]; exact Bool.false_ne_true))
  · have hexec : exec (.orphanTimerExpiry c) s = .next (s.orphanExpiry c) := rfl
    unfold State.orphanExpiry at hexec
    simp only [hctx] at hexec
    refine ⟨fun hdue => hexec.trans (congrArg _ (if_pos ?_)), fun hearly => hexec.trans (congrArg _ (if_neg ?_))⟩
    · exact (expired_iff s since _).mpr hdue
    · rw [expired_iff]; exact Nat.not_le.mpr hearly
  · refine congrArg Host.Outcome.next ?_
    unfold State.orphanExpiry
    split
    · rename_i o why since ms heq; exact absurd heq (hno o why since ms)
    · rfl

/-! ### ABORT markers (R24) -/

/-- Settles O12: the three ends of an ABORT by what the binding of its pair names. -/
theorem abortMarkerFreesContext : Obligations.AbortMarkerFreesContext := by
  unfold Obligations.AbortMarkerFreesContext
  intro s r w a v hhead hrange hmarker hmode unbound
  have hexec : exec .headEvaluation s = .next (s.abortMarker ⟨requesterOf r, w, a, v⟩).leaveHead := by
    rw [exec_headEvaluation_of_head hhead, State.evaluate_marker hrange hmarker hmode]; rfl
  unfold State.abortMarker at hexec
  refine ⟨fun hnone => hexec.trans (congrArg _ ?_), fun c o why since orphan hbound hctx => hexec.trans (congrArg _ ?_),
    fun c o f since idle hbound hctx => ?_⟩
  · have hb : s.boundContext (requesterOf r).initiator w = none := hnone
    simp only [hb]
    exact State.push_leaveHead _ _
  · have hb : s.boundContext (requesterOf r).initiator w = some c := hbound
    simp only [hb, hctx]
    rfl
  · intro closed
    have hb : s.boundContext (requesterOf r).initiator w = some c := hbound
    simp only [hb, hctx, State.discard_eq] at hexec
    refine hexec.trans (congrArg _ ?_)
    unfold State.pushIf
    by_cases hevent : (s.window w).abortedEvent = true
    · rw [if_pos hevent, if_pos hevent, State.push_leaveHead]; rfl
    · rw [if_neg hevent, if_neg hevent]; rfl

/-! ### The ingress queue and the mode wait (R143, R163, R165) -/

theorem evaluateHead_of_held {s : State} (h : s.ingress.queue = [] ∨ s.ingress.wait ≠ none ∨ s.ingress.handOver ≠ []) :
    s.evaluateHead = s := by
  unfold State.evaluateHead
  split
  · rename_i hq hw hh
    obtain h | h | h := h
    · rw [hq] at h; cases h
    · exact absurd hw h
    · exact absurd hh h
  · rfl

theorem passesAddressSpace_eq_false {r : UpRequest} (h : r.addr.toNat + r.length ≤ 2 ^ 48) : passesAddressSpace r = false :=
  decide_eq_false (Nat.not_lt.mpr h)

theorem evaluate_of_outside {s : State} {r : UpRequest} (h : 2 ^ 48 < r.addr.toNat + r.length) :
    s.evaluate r = s.endRequest (requesterOf r) .memoryError := if_pos (decide_eq_true h)

theorem evaluate_of_malformed {s : State} {r : UpRequest} {w : WindowIx} {a : Addr} {d : MalformedDetail}
    (hrange : passesAddressSpace r = false) (hm : s.markerCheck r = .malformed w a d) :
    s.evaluate r = s.refuseMalformed r w a d := by
  unfold State.evaluate
  rw [if_neg (by simp [hrange])]
  simp only [hm]

/-- In INIT and RECOVERING a request in a journal window that is not MALFORMED is put in the mode wait (R143). -/
theorem evaluate_of_modeWait {s : State} {r : UpRequest} {first : WindowIx × Addr}
    (hrange : passesAddressSpace r = false) (hm : ∀ v b d, s.markerCheck r ≠ .malformed v b d)
    (hfirst : s.firstJournalPiece r = some first) (hmode : s.mode.evaluates = false) :
    s.evaluate r = s.enterWait (.mode (heldRequest (s.markerCheck r) first r)) s.ingress.walk := by
  have hmodes : s.mode = .init ∨ s.mode = .recovering := by
    cases h : s.mode <;> simp_all [Mode.evaluates]
  unfold State.evaluate
  rw [if_neg (by simp [hrange])]
  cases hc : s.markerCheck r with
  | malformed v b d => exact absurd hc (hm v b d)
  | none => obtain h | h := hmodes <;> simp only [hfirst, h]
  | marker v b cmd x => obtain h | h := hmodes <;> simp only [hfirst, h]

/-- A READ touches no marker word (R11). -/
theorem markerCheck_of_read {s : State} {r : UpRequest} {n : Nat} (h : r.kind = .read n) : s.markerCheck r = .none := by
  simp [State.markerCheck, h]

/-- Settles O22: acceptance by the depth, and the evaluation by the first step of R165 that applies. -/
theorem ingressAcceptsHoldsAndEvaluates : Obligations.IngressAcceptsHoldsAndEvaluates := by
  unfold Obligations.IngressAcceptsHoldsAndEvaluates
  refine ⟨fun s r hlow hhigh => ?_, fun s hheld => ?_, fun s r hhead hout => ?_,
    fun s r w a hhead hrange hm hfirst hmode => ?_⟩
  · have hwf : r.WellFormed = true := by simp [UpRequest.WellFormed, hlow, hhigh]
    have hexec : exec (.upstreamRequest r) s = .next (s.accept r) := if_pos hwf
    exact ⟨fun hroom => hexec.trans (congrArg _ (if_pos hroom)),
      fun hfull => hexec.trans (congrArg _ (if_neg (Nat.not_lt.mpr hfull)))⟩
  · exact congrArg Host.Outcome.next (evaluateHead_of_held hheld)
  · rw [exec_headEvaluation_of_head hhead, evaluate_of_outside hout]
  · have hwait := evaluate_of_modeWait (passesAddressSpace_eq_false hrange) hm hfirst hmode
    refine ⟨heldRequest (s.markerCheck r) (w, a) r, ?_, fun v b cmd x hc => ?_, fun bs hc hk => ?_, fun n hk => ?_⟩
    · rw [exec_headEvaluation_of_head hhead, hwait]; rfl
    · rw [hc]; rfl
    · simp only [hc, heldRequest, hk]
    · simp only [markerCheck_of_read hk, heldRequest, hk]

/-! ### The stall timer (R167, R168) -/

/-- Before its end, or without a wait, the stall timer does nothing; at its end the wait's rule ends the head (R168). -/
theorem stallExpiry_eq {s : State} {r : UpRequest} {timer : StallTimer} {w : HeadWait}
    (hq : s.ingress.queue.head? = some r) (ht : s.ingress.timer = some timer) (hw : s.ingress.wait = some w) :
    s.stallExpiry = if timer.start.toNat + timer.length ≤ s.timebase.toNat then s.expireWait r w else s := by
  obtain ⟨rest, hrest⟩ := List.head?_eq_some_iff.mp hq
  unfold State.stallExpiry
  simp only [hrest, ht, hw, State.expired, decide_eq_true_eq]

theorem stallExpiry_of_no_wait {s : State} (h : s.ingress.wait = none) : s.stallExpiry = s := by
  unfold State.stallExpiry
  rw [h]
  split
  · rename_i heq _; cases heq
  · rfl

/-- The reason the walk recorded stands; else it is that of the failed context (R53, R55). -/
theorem stallReason_eq {s : State} {c : ContextIx} {o : Owner} {why : FailReason} {since : Word64} {orphan : Option Nat}
    (h : s.ctx c = .failed o why since orphan) : s.stallReason c = (s.ingress.walk.bind Walk.failed).getD why := by
  unfold State.stallReason
  rw [h]
  obtain _ | ⟨settled, cleared, placed, _ | f⟩ := s.ingress.walk <;> rfl

/-- What a failure for STALL has the walk at the head answer with (R53, R55). -/
theorem afterFailure_recorded (g : Ingress) (r : FailReason) (freed : Bool) (left : ContextIx → Bool) (m : Bool) :
    ((g.afterFailure r freed left m).walk.bind Walk.failed).getD r = (g.walk.bind Walk.failed).getD r := by
  unfold Ingress.afterFailure
  cases hk : g.walk with
  | none => rfl
  | some k =>
    simp only [Option.map_some, Option.bind_some]
    by_cases hn : k.placed.any left = true ∧ k.failed = none
    · rw [if_pos hn, hn.2]; rfl
    · rw [if_neg hn]

/-- Settles O23: the expiry is that of the wait, and each wait's rule gives its answer and its event. -/
theorem stallExpiryEndsTheWait : Obligations.StallExpiryEndsTheWait := by
  unfold Obligations.StallExpiryEndsTheWait
  intro s
  refine ⟨fun hwait => congrArg Host.Outcome.next (stallExpiry_of_no_wait hwait),
    fun r timer hq ht => ⟨fun hearly => ?_, fun hdue => ?_⟩⟩
  · refine congrArg Host.Outcome.next ?_
    cases hw : s.ingress.wait with
    | none => exact stallExpiry_of_no_wait hw
    | some w => rw [stallExpiry_eq hq ht hw, if_neg (Nat.not_le.mpr hearly)]
  · intro timedOut refused recorded
    have hexec {w : HeadWait} (hw : s.ingress.wait = some w) : exec .stallTimerExpiry s = .next (s.expireWait r w) :=
      congrArg Host.Outcome.next ((stallExpiry_eq hq ht hw).trans (if_pos hdue))
    refine ⟨fun w a hw => (hexec hw).trans (congrArg _ ?_), fun cmd w a hcmd hw => (hexec hw).trans (congrArg _ ?_),
      fun w a hw => (hexec hw).trans (congrArg _ ?_), fun w a hw => (hexec hw).trans (congrArg _ ?_),
      fun w hw => (hexec hw).trans (congrArg _ ?_), fun c line o f since idle hw hctx => (hexec hw).trans (congrArg _ ?_),
      fun c line o why since orphan hw hctx => (hexec hw).trans (congrArg _ ?_)⟩
    · exact State.push_leaveHead _ _
    · cases cmd with
      | openTxn => exact absurd rfl hcmd
      | commitTxn => exact State.push_leaveHead _ _
      | abortTxn => exact State.push_leaveHead _ _
    · exact State.push_leaveHead _ _
    · exact State.push_leaveHead _ _
    · exact State.push_leaveHead _ _
    · have hfail := State.failContext_eq_afterFailure .stall (some line) hctx
      have hreason : (s.failContext c .stall (some line)).stallReason c = recorded.getD .stall := by
        rw [stallReason_eq (o := o) (since := s.timebase) (orphan := some s.settings.orphanTimeout), hfail, State.push_ingress]
        · exact afterFailure_recorded ..
        · rw [hfail, State.push_ctx]; exact State.setCtx_ctx_self s c _
      show State.endRequest _ _ _ = _
      rw [hreason, hfail, State.push_endRequest]
      rfl
    · show State.endRequest _ _ _ = _
      rw [State.failContext_of_not_open _ _ (by rw [hctx]; rfl), stallReason_eq hctx]

/-! ### Reads at the head (R65, R69, R70, R71) -/

theorem mem_activeEntries {s : State} {k : Nat} (hk : k < 32) :
    (k ∈ (List.range 32).filter fun k => (s.tracking[k]?.getD none).isSome) ↔ s.trackEntry ⟨k, hk⟩ ≠ none := by
  rw [List.mem_filter, List.mem_range, Vector.getElem?_eq_getElem hk, Option.getD_some, Option.isSome_iff_ne_none]
  exact ⟨fun h => h.2, fun h => ⟨hk, h⟩⟩

/-- The FREE tracking entry with the lowest number (R70). -/
theorem freeEntry_eq_some {s : State} {k : EntryNo} (hk : s.trackEntry k = none) (hl : ∀ j, j < k → s.trackEntry j ≠ none) :
    s.freeEntry = some k := by
  unfold State.freeEntry
  rw [lowestUnused_eq_some (n := k.val) ?_ ?_ 32 0 (Nat.zero_le _) (by omega)]
  · simp
  · rw [mem_activeEntries k.isLt]; exact fun h => h hk
  · intro j hj
    rw [mem_activeEntries (by omega)]
    exact hl ⟨j, by omega⟩ hj

theorem freeEntry_eq_none {s : State} (h : ∀ k, s.trackEntry k ≠ none) : s.freeEntry = none := by
  unfold State.freeEntry
  rw [lowestUnused_eq_none 32 0]
  intro j _ hj
  rw [mem_activeEntries (by omega)]
  exact h _

/-- A read outside every journal window has no overlay (R67). -/
theorem overlays_of_outside {s : State} {r : UpRequest} (h : s.firstJournalPiece r = none) : s.overlays r = [] := by
  unfold State.firstJournalPiece at h
  rw [List.findSome?_eq_none_iff] at h
  unfold State.overlays
  rw [List.filterMap_eq_nil_iff]
  intro p hp
  have hout : s.journalWindow p.1 = none := by simpa using h p hp
  unfold State.pieceOverlay
  rw [hout]

/-- Settles O19: no overlay hands one READ over; otherwise the lowest FREE entry is taken, or the head waits. -/
theorem readTakesLowestFreeEntry : Obligations.ReadTakesLowestFreeEntry := by
  unfold Obligations.ReadTakesLowestFreeEntry
  intro s r n hhead hkind hrange hmode
  have hlen : r.length = n := by simp [UpRequest.length, hkind]
  have hexec : exec .headEvaluation s = .next (s.evaluateRead r) := by
    rw [exec_headEvaluation_of_head hhead, State.evaluate_read hrange hkind hmode.symm]
  obtain ⟨-, -, hhand⟩ := hhead
  refine ⟨fun hnone => hexec.trans (congrArg _ ?_), fun k hsome hfree hlow => hexec.trans (congrArg _ ?_),
    fun hsome hfull => ?_⟩
  · unfold State.evaluateRead
    rw [hnone, hlen]
    cases s.firstJournalPiece r <;> simp only [if_true, State.handOver, hhand, List.nil_append] <;> rfl
  · unfold State.evaluateRead
    cases hfirst : s.firstJournalPiece r with
    | none => exact absurd (overlays_of_outside hfirst) hsome
    | some first =>
      simp only [if_neg hsome, freeEntry_eq_some hfree hlow, hlen, State.handOverTracked, State.setTrack_ingress, hhand,
        List.nil_append]
      rfl
  · cases hfirst : s.firstJournalPiece r with
    | none => exact absurd (overlays_of_outside hfirst) hsome
    | some first =>
      refine ⟨first.1, first.2, rfl, hexec.trans (congrArg _ ?_)⟩
      unfold State.evaluateRead
      simp only [hfirst, if_neg hsome, freeEntry_eq_none hfull]
      rfl

end Sys2Proof.Proofs.HeadAndTimers
end

section
/-! PROOF. Data writes at the head: how each piece is settled, and what the walk over the pieces comes to. -/

namespace Sys2Proof.Proofs.DataWrites
open Sys2Proof Sys2Proof.Machine Sys2Proof.Proofs.RecoveryEnd

/-! ### What a binding names (R18) -/

theorem bound_of_none {s : State} {i : Initiator} {w : WindowIx} (h : s.boundContext i w = none) : s.bound i w = .unbound := by
  unfold State.bound; rw [h]

theorem bound_of_opened {s : State} {i : Initiator} {w : WindowIx} {c : ContextIx} {o : Owner} {f : Bool} {a : Word64}
    {t : Bool} (h : s.boundContext i w = some c) (hc : s.ctx c = .opened o f a t) : s.bound i w = .opened c := by
  simp only [State.bound, h, hc]

theorem bound_of_failed {s : State} {i : Initiator} {w : WindowIx} {c : ContextIx} {o : Owner} {why : FailReason} {a : Word64}
    {t : Option Nat} (h : s.boundContext i w = some c) (hc : s.ctx c = .failed o why a t) : s.bound i w = .failed c why := by
  simp only [State.bound, h, hc]

/-! ### The bytes of a piece -/

/-- A piece that lies within its line holds an enabled byte exactly where its request has one. -/
theorem hasBytes_lineBytesAt {pos : Nat} {bs : List (Option Byte)} (h : pos + bs.length ≤ 64) :
    hasBytes (lineBytesAt pos bs) = bs.any Option.isSome := by
  have hnone (n : Nat) : (List.replicate n (none : Option Byte)).any Option.isSome = false := by
    rw [List.any_eq_false]; intro x hx; rw [List.eq_of_mem_replicate hx]; decide
  unfold hasBytes lineBytesAt
  rw [List.take_append, List.take_of_length_le (by simp; omega), List.take_replicate, List.any_append, List.any_append,
    hnone, hnone, Bool.false_or, Bool.or_false]

theorem chain_any_committed (s : State) (line : Addr) :
    ((s.chain line).any fun h => (s.ctx h.owner).isCommitted) = true ↔
      ∃ h ∈ s.hold, h.line = line ∧ (s.ctx h.owner).isCommitted = true := by
  unfold State.chain
  simp only [List.any_eq_true, List.mem_filter, decide_eq_true_eq, and_assoc]

/-! ### Settling one piece (R26, R46–R52, R54, R58) -/

section Settle

variable {s : State} {i : Initiator} {p : Addr × List (Option Byte)} {w : WindowIx} {c : ContextIx}

theorem settlePiece_of_outside (hw : s.journalWindow p.1 = none) :
    s.settlePiece i p = (.cleared ⟨lineOf p.1, pieceBytes p, false⟩, s) := by
  simp only [State.settlePiece, hw]

theorem settlePiece_of_failed {why : FailReason} (hw : s.journalWindow p.1 = some w) (hb : s.bound i w = .failed c why) :
    s.settlePiece i p = (.failed why, s) := by
  simp only [State.settlePiece, hw, hb]

theorem settlePiece_of_empty (hw : s.journalWindow p.1 = some w) (hb : s.bound i w = .opened c)
    (hempty : hasBytes (pieceBytes p) = false) : s.settlePiece i p = (.placed none, s) := by
  simp only [State.settlePiece, hw, hb, hempty, Bool.false_eq_true, if_false]

theorem settlePiece_of_opened (hw : s.journalWindow p.1 = some w) (hb : s.bound i w = .opened c)
    (hbytes : hasBytes (pieceBytes p) = true) :
    s.settlePiece i p = s.placePiece c w (lineOf p.1) (pieceBytes p) := by
  simp only [State.settlePiece, hw, hb, hbytes, if_true]

/-- A bare piece is blocked by a committed slot on its line where it has an enabled byte (R58, R60). -/
theorem settlePiece_of_blocked (hw : s.journalWindow p.1 = some w) (hb : s.bound i w = .unbound)
    (hblocked : hasBytes (pieceBytes p) = true ∧
      ∃ h ∈ s.hold, h.line = lineOf p.1 ∧ (s.ctx h.owner).isCommitted = true) :
    s.settlePiece i p = (.waiting (.bare w p.1), s) := by
  simp only [State.settlePiece, hw, hb, Bool.and_eq_true, chain_any_committed, if_pos hblocked]

theorem settlePiece_of_bare (hw : s.journalWindow p.1 = some w) (hb : s.bound i w = .unbound)
    (hfree : ¬(hasBytes (pieceBytes p) = true ∧
      ∃ h ∈ s.hold, h.line = lineOf p.1 ∧ (s.ctx h.owner).isCommitted = true)) :
    s.settlePiece i p = (.cleared ⟨lineOf p.1, pieceBytes p, true⟩, s) := by
  simp only [State.settlePiece, hw, hb, Bool.and_eq_true, chain_any_committed, if_neg hfree]

variable {o : Owner} {f : Bool} {since : Word64} {idle : Bool} {line : Addr} {bytes : LineBytes}

theorem touch_of_opened (hc : s.ctx c = .opened o f since idle) :
    s.touch c = { s with contexts := s.contexts.set c (.opened o f s.timebase idle) } := by
  simp only [State.touch, hc]; rfl

/-- A piece behind the context's own slot merges into it (R46, R47). -/
theorem placePiece_of_own {h : HeldSlot} (hc : s.ctx c = .opened o f since idle) (hlast : (s.chain line).getLast? = some h)
    (hown : h.owner = c) : s.placePiece c w line bytes = (.placed (some c),
      { s with
        contexts := s.contexts.set c (.opened o f s.timebase idle)
        hold := s.hold.map fun g => if g.number = h.number then { g with bytes := layOver g.bytes bytes } else g }) := by
  have ht : (s.mergeSlot h.number bytes).touch c = _ := touch_of_opened (s := s.mergeSlot h.number bytes) hc
  simp only [State.placePiece, hlast, if_pos hown, ht]; rfl

/-- A piece behind another context's open slot fails its context (R49). -/
theorem placePiece_of_conflict {h : HeldSlot} (hlast : (s.chain line).getLast? = some h) (hown : h.owner ≠ c)
    (hopen : (s.ctx h.owner).isOpen = true) :
    s.placePiece c w line bytes = (.failed .conflict, s.failContext c .conflict (some line)) := by
  simp only [State.placePiece, hlast, if_neg hown, if_pos hopen]

/-- A piece behind no slot, or behind a committed one, needs a new slot (R46, R48). -/
theorem placePiece_of_new
    (hnew : ∀ h, (s.chain line).getLast? = some h → h.owner ≠ c ∧ (s.ctx h.owner).isOpen = false) :
    s.placePiece c w line bytes = s.placeNew c w line bytes := by
  unfold State.placePiece
  cases hlast : (s.chain line).getLast? with
  | none => rfl
  | some h =>
    obtain ⟨hown, hclosed⟩ := hnew h hlast
    simp only [if_neg hown, hclosed, Bool.false_eq_true, if_false]

theorem placeNew_of_tooLong (h : (s.window w).lengthLimit < s.entryCount c + 1) :
    s.placeNew c w line bytes = (.failed .length, s.failContext c .length (some line)) := if_pos h

theorem placeNew_of_free {n : SlotNo} (hc : s.ctx c = .opened o f since idle)
    (hfits : ¬(s.window w).lengthLimit < s.entryCount c + 1) (hfree : s.freeSlot = some n) :
    s.placeNew c w line bytes = (.placed (some c),
      { s with contexts := s.contexts.set c (.opened o f s.timebase idle), hold := s.hold ++ [⟨n, line, bytes, c⟩] }) := by
  have ht : (s.allocateSlot n line bytes c).touch c = _ := touch_of_opened (s := s.allocateSlot n line bytes c) hc
  simp only [State.placeNew, if_neg hfits, hfree, ht]; rfl

theorem placeNew_of_noSlot (hfits : ¬(s.window w).lengthLimit < s.entryCount c + 1) (hfull : s.freeSlot = none)
    (hpolicy : (s.window w).fullPolicy = .fail) :
    s.placeNew c w line bytes = (.failed .noSlot, s.failContext c .noSlot (some line)) := by
  simp only [State.placeNew, if_neg hfits, hfull, hpolicy]

theorem placeNew_of_stall (hfits : ¬(s.window w).lengthLimit < s.entryCount c + 1) (hfull : s.freeSlot = none)
    (hpolicy : (s.window w).fullPolicy = .stall) : s.placeNew c w line bytes = (.waiting (.slot c line), s) := by
  simp only [State.placeNew, if_neg hfits, hfull, hpolicy]

/-- The three failures of a piece with an enabled byte, each by its own check (R48, R49, R51). -/
theorem settlePiece_of_why {why : FailReason} (hw : s.journalWindow p.1 = some w) (hb : s.bound i w = .opened c)
    (hbytes : hasBytes (pieceBytes p) = true)
    (hwhy : (why = .conflict ∧ ∃ h, (s.chain (lineOf p.1)).getLast? = some h ∧ h.owner ≠ c ∧ (s.ctx h.owner).isOpen = true) ∨
      why = .length ∧ (∀ h, (s.chain (lineOf p.1)).getLast? = some h → h.owner ≠ c ∧ (s.ctx h.owner).isOpen = false) ∧
        (s.window w).lengthLimit < s.entryCount c + 1 ∨
      why = .noSlot ∧ (∀ h, (s.chain (lineOf p.1)).getLast? = some h → h.owner ≠ c ∧ (s.ctx h.owner).isOpen = false) ∧
        ¬(s.window w).lengthLimit < s.entryCount c + 1 ∧ (∀ m : SlotNo, ∃ h ∈ s.hold, h.number = m) ∧
        (s.window w).fullPolicy = .fail) :
    s.settlePiece i p = (.failed why, s.failContext c why (some (lineOf p.1))) := by
  rw [settlePiece_of_opened hw hb hbytes]
  obtain ⟨rfl, h, hlast, hown, hopen⟩ | ⟨rfl, hnew, hlong⟩ | ⟨rfl, hnew, hfits, hfull, hpolicy⟩ := hwhy
  · exact placePiece_of_conflict hlast hown hopen
  · rw [placePiece_of_new hnew, placeNew_of_tooLong hlong]
  · rw [placePiece_of_new hnew, placeNew_of_noSlot hfits (State.freeSlot_eq_none hfull) hpolicy]

end Settle

/-! ### The walk's record at the head does not decide how pieces are settled (R54) -/

/-- The state with another walk standing at the head. -/
def atWalk (s : State) (k : Option Walk) : State := { s with ingress := { s.ingress with walk := k } }

theorem push_atWalk (s : State) (k : Option Walk) (b : EventBody) : (atWalk s k).push b = atWalk (s.push b) k := by
  unfold State.push
  by_cases h : s.events.entries.length < Config.eventDepth
  · rw [if_pos h]; exact if_pos h
  · rw [if_neg h]; exact if_neg h

theorem failContext_atWalk (s : State) (k : Option Walk) (c : ContextIx) (r : FailReason) (l : Option Addr) :
    ∃ k', (atWalk s k).failContext c r l = atWalk (s.failContext c r l) k' := by
  by_cases ho : (s.ctx c).isOpen = true
  · obtain ⟨o, f, a, t, hc⟩ : ∃ o f a t, s.ctx c = .opened o f a t := by
      revert ho; cases s.ctx c <;> simp [Context.isOpen]
    rw [State.failContext_eq_afterFailure r l hc, State.failContext_eq_afterFailure (s := atWalk s k) r l hc]
    refine ⟨((atWalk s k).ingress.afterFailure r (decide (1 ≤ s.entryCount c)) (fun x => decide (x = c)) false).walk, ?_⟩
    rw [← push_atWalk]
    rfl
  · have hclosed : (s.ctx c).isOpen = false := by simpa using ho
    rw [State.failContext_of_not_open r l hclosed, State.failContext_of_not_open (s := atWalk s k) r l hclosed]
    exact ⟨k, rfl⟩

theorem touch_atWalk (s : State) (k : Option Walk) (c : ContextIx) : (atWalk s k).touch c = atWalk (s.touch c) k := by
  have hc : (atWalk s k).ctx c = s.ctx c := rfl
  unfold State.touch
  rw [hc]
  cases s.ctx c <;> rfl

theorem placeNew_atWalk (s : State) (k : Option Walk) (c : ContextIx) (w : WindowIx) (line : Addr) (bytes : LineBytes) :
    ∃ k', (atWalk s k).placeNew c w line bytes =
      ((s.placeNew c w line bytes).1, atWalk (s.placeNew c w line bytes).2 k') := by
  have hread : (atWalk s k).window w = s.window w ∧ (atWalk s k).entryCount c = s.entryCount c ∧
      (atWalk s k).freeSlot = s.freeSlot := ⟨rfl, rfl, rfl⟩
  obtain ⟨hwindow, hcount, hslot⟩ := hread
  unfold State.placeNew
  rw [hwindow, hcount, hslot]
  by_cases hlong : (s.window w).lengthLimit < s.entryCount c + 1
  · rw [if_pos hlong, if_pos hlong]
    obtain ⟨k', hk⟩ := failContext_atWalk s k c .length (some line)
    exact ⟨k', by rw [hk]⟩
  · rw [if_neg hlong, if_neg hlong]
    cases s.freeSlot with
    | some n => exact ⟨k, congrArg _ (touch_atWalk (s.allocateSlot n line bytes c) k c)⟩
    | none =>
      cases (s.window w).fullPolicy with
      | stall => exact ⟨k, rfl⟩
      | fail =>
        obtain ⟨k', hk⟩ := failContext_atWalk s k c .noSlot (some line)
        exact ⟨k', congrArg _ hk⟩

theorem placePiece_atWalk (s : State) (k : Option Walk) (c : ContextIx) (w : WindowIx) (line : Addr) (bytes : LineBytes) :
    ∃ k', (atWalk s k).placePiece c w line bytes =
      ((s.placePiece c w line bytes).1, atWalk (s.placePiece c w line bytes).2 k') := by
  have hchain : (atWalk s k).chain line = s.chain line := rfl
  unfold State.placePiece
  rw [hchain]
  cases (s.chain line).getLast? with
  | none => exact placeNew_atWalk s k c w line bytes
  | some h =>
    have hctx : (atWalk s k).ctx h.owner = s.ctx h.owner := rfl
    by_cases hown : h.owner = c
    · simp only [if_pos hown]
      exact ⟨k, congrArg _ (touch_atWalk (s.mergeSlot h.number bytes) k c)⟩
    · simp only [if_neg hown, hctx]
      by_cases hopen : (s.ctx h.owner).isOpen = true
      · simp only [if_pos hopen]
        obtain ⟨k', hk⟩ := failContext_atWalk s k c .conflict (some line)
        exact ⟨k', congrArg _ hk⟩
      · simp only [if_neg hopen]
        exact placeNew_atWalk s k c w line bytes

theorem settlePiece_atWalk (s : State) (k : Option Walk) (i : Initiator) (p : Addr × List (Option Byte)) :
    ∃ k', (atWalk s k).settlePiece i p = ((s.settlePiece i p).1, atWalk (s.settlePiece i p).2 k') := by
  have hwindow : (atWalk s k).journalWindow p.1 = s.journalWindow p.1 := rfl
  have hbound (w : WindowIx) : (atWalk s k).bound i w = s.bound i w := rfl
  have hany : ((atWalk s k).chain (lineOf p.1)).any (fun h => ((atWalk s k).ctx h.owner).isCommitted) =
      (s.chain (lineOf p.1)).any fun h => (s.ctx h.owner).isCommitted := rfl
  simp only [State.settlePiece, hwindow]
  cases s.journalWindow p.1 with
  | none => exact ⟨k, rfl⟩
  | some w =>
    simp only [hbound, hany]
    cases s.bound i w with
    | failed c r => exact ⟨k, rfl⟩
    | opened c =>
      by_cases hbytes : hasBytes (pieceBytes p) = true
      · simp only [if_pos hbytes]
        exact placePiece_atWalk s k c w _ _
      · simp only [if_neg hbytes]
        exact ⟨k, rfl⟩
    | unbound =>
      by_cases hblocked : (hasBytes (pieceBytes p) && (s.chain (lineOf p.1)).any fun h => (s.ctx h.owner).isCommitted) = true
      · simp only [if_pos hblocked]; exact ⟨k, rfl⟩
      · simp only [if_neg hblocked]; exact ⟨k, rfl⟩

/-- The walk's progress after a settled piece that lets it go on (R54). -/
def Progressed (k : Walk) : Settled → Walk → Prop
  | .cleared q, k' => k' = { k with settled := k.settled + 1, cleared := k.cleared ++ [q] }
  | .placed none, k' => k' = { k with settled := k.settled + 1 }
  | .placed (some c), k' => k' = { k with settled := k.settled + 1, placed := k.placed ++ [c] }
  | .failed _, _ => False
  | .waiting _, _ => False

theorem progressed_cleared {k : Walk} (q : ClearedPiece) (hf : k.failed = none) :
    Progressed k (.cleared q) ⟨k.settled + 1, k.cleared ++ [q], k.placed ++ [], none⟩ := by
  simp [Progressed, hf]

theorem walkPieces_cons {s t : State} {i : Initiator} {p : Addr × List (Option Byte)} {k k' : Walk} {x : Settled}
    (ps : List (Addr × List (Option Byte))) (h : s.settlePiece i p = (x, t)) (hk : Progressed k x k') :
    walkPieces i (p :: ps) k s = walkPieces i ps k' t := by
  conv_lhs => unfold walkPieces
  rw [h]
  cases x with
  | cleared q => cases hk; rfl
  | placed c => cases c <;> (cases hk; rfl)
  | failed r => exact hk.elim
  | waiting w => exact hk.elim

theorem walkPieces_of_failed {s t : State} {i : Initiator} {p : Addr × List (Option Byte)} {r : FailReason} (k : Walk)
    (ps : List (Addr × List (Option Byte))) (h : s.settlePiece i p = (.failed r, t)) :
    walkPieces i (p :: ps) k s = (.stopped r, k, t) := by
  unfold walkPieces; rw [h]

theorem walkPieces_of_waiting {s t : State} {i : Initiator} {p : Addr × List (Option Byte)} {w : HeadWait} (k : Walk)
    (ps : List (Addr × List (Option Byte))) (h : s.settlePiece i p = (.waiting w, t)) :
    walkPieces i (p :: ps) k s = (.paused w, k, t) := by
  unfold walkPieces; rw [h]

theorem walkPieces_atWalk (i : Initiator) (ps : List (Addr × List (Option Byte))) : ∀ (k : Walk) (s : State) (x : Option Walk),
    ∃ x', walkPieces i ps k (atWalk s x) =
      ((walkPieces i ps k s).1, (walkPieces i ps k s).2.1, atWalk (walkPieces i ps k s).2.2 x') := by
  induction ps with
  | nil => exact fun k s x => ⟨x, rfl⟩
  | cons p ps ih =>
    intro k s x
    obtain ⟨x', hx⟩ := settlePiece_atWalk s x i p
    unfold walkPieces
    rw [hx]
    rcases s.settlePiece i p with ⟨_ | (_ | c) | r | w, t⟩
    · exact ih _ t x'
    · exact ih _ t x'
    · exact ih _ t x'
    · exact ⟨x', rfl⟩
    · exact ⟨x', rfl⟩

/-! ### Cleared pieces are issued (R56, R59) -/

/-- A context whose open slot an issued bare piece passed, or none did (R59). -/
def interferedBy (b : Bool) : Context → Context
  | .opened o f since idle => .opened o (f || b) since idle
  | c => c

theorem interferedBy_interferedBy (a b : Bool) (x : Context) : interferedBy b (interferedBy a x) = interferedBy (a || b) x := by
  cases x <;> simp [interferedBy, Bool.or_assoc]

theorem interferedBy_false (x : Context) : interferedBy false x = x := by
  cases x <;> simp [interferedBy]

/-- Whether an issued piece passes the open slot of a context on its line (R56). -/
def passesSlotOf (s : State) (p : ClearedPiece) (c : ContextIx) : Bool :=
  p.bare && (s.chain p.line).getLast?.any fun h => decide (h.owner = c)

theorem setInterfered_eq (s : State) (c : ContextIx) : ∃ v : Vector Context 16,
    s.setInterfered c = { s with contexts := v } ∧ ∀ d : ContextIx, v[d] = interferedBy (decide (c = d)) (s.ctx d) := by
  have hrest (d : ContextIx) (h : c ≠ d) : s.ctx d = interferedBy (decide (c = d)) (s.ctx d) := by
    rw [decide_eq_false h, interferedBy_false]
  unfold State.setInterfered
  cases hc : s.ctx c with
  | opened o f a t =>
    refine ⟨_, rfl, fun d => ?_⟩
    have hset := State.setCtx_ctx s c d (.opened o true a t)
    refine hset.trans ?_
    by_cases hd : c = d
    · subst hd; simp [hc, interferedBy]
    · rw [if_neg hd]; exact hrest d hd
  | _ =>
    refine ⟨s.contexts, rfl, fun d => ?_⟩
    by_cases hd : c = d
    · subst hd; show s.ctx c = _; rw [hc]; rfl
    · exact hrest d hd

theorem interfere_eq (s : State) (p : ClearedPiece) : ∃ v : Vector Context 16,
    s.interfere p = { s with contexts := v } ∧ ∀ c : ContextIx, v[c] = interferedBy (passesSlotOf s p c) (s.ctx c) := by
  have hnone (h : ∀ c, passesSlotOf s p c = false) : ∀ c : ContextIx, s.contexts[c] = interferedBy (passesSlotOf s p c) (s.ctx c) :=
    fun c => by rw [h c, interferedBy_false]; rfl
  unfold State.interfere
  by_cases hbare : p.bare = true
  · rw [if_pos hbare]
    cases hlast : (s.chain p.line).getLast? with
    | none => exact ⟨s.contexts, rfl, hnone fun c => by simp [passesSlotOf, hlast]⟩
    | some h =>
      obtain ⟨v, hv, hctx⟩ := setInterfered_eq s h.owner
      refine ⟨v, hv, fun c => ?_⟩
      rw [hctx c]
      simp [passesSlotOf, hbare, hlast]
  · rw [if_neg hbare]
    exact ⟨s.contexts, rfl, hnone fun c => by simp [passesSlotOf, hbare]⟩

/-- What the issued pieces do to the contexts, and nothing else (R56, R59). -/
theorem foldl_interfere_eq (issued : List ClearedPiece) : ∀ s : State, ∃ v : Vector Context 16,
    issued.foldl State.interfere s = { s with contexts := v } ∧
      ∀ c : ContextIx, v[c] = interferedBy (issued.any fun p => passesSlotOf s p c) (s.ctx c) := by
  induction issued with
  | nil => exact fun s => ⟨s.contexts, rfl, fun c => (interferedBy_false _).symm⟩
  | cons p ps ih =>
    intro s
    obtain ⟨v, hv, hctx⟩ := interfere_eq s p
    obtain ⟨v', hv', hctx'⟩ := ih (s.interfere p)
    rw [hv] at hv' hctx'
    refine ⟨v', ?_, fun c => ?_⟩
    · rw [List.foldl_cons, hv, hv']
    · have hc : State.ctx { s with contexts := v } c = interferedBy (passesSlotOf s p c) (s.ctx c) := hctx c
      rw [hctx' c, hc, interferedBy_interferedBy]
      rfl

/-- With no cleared piece that has a byte the request is answered at once (R56). -/
theorem completeWalk_of_none {s : State} {k : Walk} (r : Requester) (h : k.cleared.filter (fun p => hasBytes p.bytes) = []) :
    s.completeWalk r k = s.endRequest r (.ok []) := by
  unfold State.completeWalk
  rw [h]
  exact if_pos rfl

/-- The pieces with a byte are handed over in order, counted by one pending answer (R56, R169). -/
theorem completeWalk_of_issued {s : State} {k : Walk} (r : Requester) (hhand : s.ingress.handOver = [])
    (h : k.cleared.filter (fun p => hasBytes p.bytes) ≠ []) : ∃ v : Vector Context 16,
    s.completeWalk r k = State.leaveHead { s with
      contexts := v
      ingress := { s.ingress with
        handOver := (k.cleared.filter fun p => hasBytes p.bytes).map fun p =>
          ⟨.write p.line p.bytes, .pendingAnswer s.ingress.nextAnswer, false⟩
        answers := s.ingress.answers ++
          [⟨s.ingress.nextAnswer, r, (k.cleared.filter fun p => hasBytes p.bytes).length, false⟩]
        nextAnswer := s.ingress.nextAnswer + 1 } } ∧
      ∀ c : ContextIx, v[c] = interferedBy ((k.cleared.filter fun p => hasBytes p.bytes).any fun p => passesSlotOf s p c) (s.ctx c) := by
  obtain ⟨v, hv, hctx⟩ := foldl_interfere_eq (k.cleared.filter fun p => hasBytes p.bytes) s
  refine ⟨v, ?_, hctx⟩
  unfold State.completeWalk
  simp only [if_neg h, hv, State.handOver, hhand, List.nil_append, List.map_map, List.length_map]
  rfl

/-! ### The end of a walk, whatever walk stood at the head -/

/-- What the end of a walk does with the head's request (R54, R56, R57). -/
def endWalk (r : Requester) : WalkEnd × Walk × State → State
  | (.complete, k, t) => t.completeWalk r k
  | (.stopped f, _, t) => t.endRequest r (.failed (.context f))
  | (.paused w, k, t) => t.enterWait w (some k)

theorem interfere_atWalk (s : State) (x : Option Walk) (p : ClearedPiece) :
    (atWalk s x).interfere p = atWalk (s.interfere p) x := by
  have hchain : (atWalk s x).chain p.line = s.chain p.line := rfl
  have hset (c : ContextIx) : (atWalk s x).setInterfered c = atWalk (s.setInterfered c) x := by
    have hc : (atWalk s x).ctx c = s.ctx c := rfl
    unfold State.setInterfered
    rw [hc]
    cases s.ctx c <;> rfl
  unfold State.interfere
  rw [hchain]
  by_cases hbare : p.bare = true
  · rw [if_pos hbare, if_pos hbare]
    cases (s.chain p.line).getLast? with
    | none => rfl
    | some h => exact hset h.owner
  · rw [if_neg hbare, if_neg hbare]

theorem foldl_interfere_atWalk (x : Option Walk) (issued : List ClearedPiece) : ∀ s : State,
    issued.foldl State.interfere (atWalk s x) = atWalk (issued.foldl State.interfere s) x := by
  induction issued with
  | nil => exact fun _ => rfl
  | cons p ps ih => intro s; rw [List.foldl_cons, List.foldl_cons, interfere_atWalk, ih]

theorem endWalk_atWalk (r : Requester) (e : WalkEnd) (k : Walk) (t : State) (x : Option Walk) :
    endWalk r (e, k, atWalk t x) = endWalk r (e, k, t) := by
  cases e with
  | complete =>
    show (atWalk t x).completeWalk r k = t.completeWalk r k
    unfold State.completeWalk
    simp only [foldl_interfere_atWalk]
    by_cases h : k.cleared.filter (fun p => hasBytes p.bytes) = []
    · rw [if_pos h, if_pos h]; rfl
    · rw [if_neg h, if_neg h]; rfl
  | stopped f => rfl
  | paused w => rfl

/-! ### A data write at the head (R54, R165) -/

/-- The request at the head is a data write that the walk takes: it touches no marker word, lies within the address space and
does not wait for the mode. -/
structure WriteAtHead (s : State) (r : UpRequest) (bs : List (Option Byte)) : Prop where
  head : s.HeadIs r
  kind : r.kind = .write bs
  range : passesAddressSpace r = false
  marker : s.markerCheck r = .none
  mode : s.mode.evaluates = true ∨ s.firstJournalPiece r = none

theorem exec_of_write {s : State} {r : UpRequest} {bs : List (Option Byte)} {k : Walk} (h : WriteAtHead s r bs)
    (hk : k = s.ingress.walk.getD Walk.fresh) (hf : k.failed = none) : exec .headEvaluation s =
    .next (endWalk (requesterOf r) (walkPieces r.initiator ((pieces r).drop k.settled) k s)) := by
  have hwrite : s.evaluateWrite r = endWalk (requesterOf r) (walkPieces r.initiator ((pieces r).drop k.settled) k s) := by
    unfold State.evaluateWrite
    simp only [← hk, hf]
    rcases walkPieces r.initiator ((pieces r).drop k.settled) k s with ⟨_ | _ | _, k', t⟩ <;> rfl
  rw [exec_headEvaluation_of_head h.head, State.evaluate_write h.range h.kind h.marker h.mode, hwrite]

/-- A walk that recorded a failure during its wait ends the request with that reason (R55). -/
theorem exec_of_write_of_recorded {s : State} {r : UpRequest} {bs : List (Option Byte)} {k : Walk} {f : FailReason}
    (h : WriteAtHead s r bs) (hk : k = s.ingress.walk.getD Walk.fresh) (hf : k.failed = some f) :
    exec .headEvaluation s = .next (s.endRequest (requesterOf r) (.failed (.context f))) := by
  rw [exec_headEvaluation_of_head h.head, State.evaluate_write h.range h.kind h.marker h.mode]
  unfold State.evaluateWrite
  simp only [← hk, hf]

/-- A settled piece leaves the evaluation of the rest, with the walk's record of it (R54). -/
theorem exec_of_write_of_progress {s t : State} {r : UpRequest} {bs : List (Option Byte)} {k k' : Walk} {x : Settled}
    {p : Addr × List (Option Byte)} {rest : List (Addr × List (Option Byte))} (h : WriteAtHead s r bs)
    (h' : WriteAtHead (atWalk t (some k')) r bs)
    (hk : k = s.ingress.walk.getD Walk.fresh) (hf : k.failed = none) (hpieces : (pieces r).drop k.settled = p :: rest)
    (hsettle : s.settlePiece r.initiator p = (x, t)) (hx : Progressed k x k') (hf' : k'.failed = none)
    (hset : k'.settled = k.settled + 1) :
    exec .headEvaluation s = exec .headEvaluation (atWalk t (some k')) := by
  have hrest : (pieces r).drop k'.settled = rest := by rw [hset, ← List.tail_drop, hpieces, List.tail_cons]
  obtain ⟨x', hx'⟩ := walkPieces_atWalk r.initiator rest k' t (some k')
  rw [exec_of_write h hk hf, exec_of_write h' rfl hf']
  show _ = Host.Outcome.next (endWalk _ (walkPieces _ ((pieces r).drop k'.settled) k' _))
  rw [hpieces, walkPieces_cons rest hsettle hx, hrest, hx', endWalk_atWalk]

/-- A failed piece ends the request with its reason (R57). -/
theorem exec_of_write_of_failed {s t : State} {r : UpRequest} {bs : List (Option Byte)} {k : Walk} {why : FailReason}
    {p : Addr × List (Option Byte)} {rest : List (Addr × List (Option Byte))} (h : WriteAtHead s r bs)
    (hk : k = s.ingress.walk.getD Walk.fresh) (hf : k.failed = none) (hpieces : (pieces r).drop k.settled = p :: rest)
    (hsettle : s.settlePiece r.initiator p = (.failed why, t)) :
    exec .headEvaluation s = .next (t.endRequest (requesterOf r) (.failed (.context why))) := by
  rw [exec_of_write h hk hf, hpieces, walkPieces_of_failed k rest hsettle]; rfl

/-- A waiting piece puts the head in its wait, with the walk paused at the piece (R52, R60). -/
theorem exec_of_write_of_waiting {s t : State} {r : UpRequest} {bs : List (Option Byte)} {k : Walk} {w : HeadWait}
    {p : Addr × List (Option Byte)} {rest : List (Addr × List (Option Byte))} (h : WriteAtHead s r bs)
    (hk : k = s.ingress.walk.getD Walk.fresh) (hf : k.failed = none) (hpieces : (pieces r).drop k.settled = p :: rest)
    (hsettle : s.settlePiece r.initiator p = (.waiting w, t)) :
    exec .headEvaluation s = .next (t.enterWait w (some k)) := by
  rw [exec_of_write h hk hf, hpieces, walkPieces_of_waiting k rest hsettle]; rfl

/-- The request ends and its context has failed: the head's wait and walk are gone with it. -/
theorem failContext_endRequest {s : State} {c : ContextIx} {o : Owner} {f : Bool} {since : Word64} {idle : Bool}
    (why : FailReason) (l : Option Addr) (q : Requester) (code : AnswerCode) (hc : s.ctx c = .opened o f since idle) :
    (s.failContext c why l).endRequest q code = State.push
      (State.endRequest
        { s with
          contexts := s.contexts.set c (.failed o why s.timebase (some s.settings.orphanTimeout))
          hold := s.hold.filter fun h => h.owner ≠ c } q code)
      (.txnFailed c o.initiator o.window none why l (s.entryCount c)) := by
  obtain ⟨w, k, heq⟩ := State.failContext_eq why l hc
  rw [heq, State.push_endRequest]
  rfl

/-! ### Cutting at the line boundaries (R164) -/

theorem cutLines_flatten {α : Type} : ∀ (k a : Nat) (xs : List α), xs.length ≤ k →
    ((cutLines k a xs).map Prod.snd).flatten = xs := by
  intro k
  induction k with
  | zero => intro a xs h; rw [List.length_eq_zero_iff.mp (Nat.le_zero.mp h)]; rfl
  | succ k ih =>
    intro a xs h
    cases xs with
    | nil => rfl
    | cons x xs =>
      unfold cutLines
      rw [List.map_cons, List.flatten_cons, ih, List.take_append_drop]
      rw [List.length_drop]
      simp only [List.length_cons] at h ⊢
      omega

/-- Each part begins where the parts before it end, is not empty, lies within a line, and reaches the line's end unless it is
the last. -/
theorem cutLines_getElem? {α : Type} : ∀ (k a : Nat) (xs : List α), xs.length ≤ k → ∀ (i : Nat) (p : Nat × List α),
    (cutLines k a xs)[i]? = some p →
    p.1 = a + (((cutLines k a xs).take i).map fun x => x.2.length).sum ∧ 1 ≤ p.2.length ∧ p.1 % 64 + p.2.length ≤ 64 ∧
      (i + 1 = (cutLines k a xs).length ∨ p.1 % 64 + p.2.length = 64) ∧ p.1 + p.2.length ≤ a + xs.length := by
  intro k
  induction k with
  | zero => intro a xs _ i p h; simp [cutLines] at h
  | succ k ih =>
    intro a xs hlen i p h
    cases xs with
    | nil => simp [cutLines] at h
    | cons x xs =>
      have hroom : 0 < 64 - a % 64 := Nat.sub_pos_of_lt (Nat.mod_lt _ (by decide))
      have hdrop : ((x :: xs).drop (64 - a % 64)).length = (x :: xs).length - (64 - a % 64) := List.length_drop
      have htake : ((x :: xs).take (64 - a % 64)).length = min (64 - a % 64) (x :: xs).length := List.length_take
      unfold cutLines at h ⊢
      simp only [List.length_cons] at hlen hdrop htake
      cases i with
      | zero =>
        simp only [List.getElem?_cons_zero, Option.some.injEq] at h
        subst h
        simp only [htake, List.take_zero, List.map_nil, List.sum_nil, List.length_cons]
        refine ⟨rfl, by omega, by omega, ?_, by omega⟩
        by_cases hlast : xs.length + 1 ≤ 64 - a % 64
        · left
          rw [List.drop_eq_nil_of_le (by simpa using hlast)]
          cases k <;> rfl
        · right; omega
      | succ i =>
        rw [List.getElem?_cons_succ] at h
        obtain ⟨hstart, hone, hline, hend, hbound⟩ := ih _ _ (by omega) i p h
        have hpos : xs.length + 1 > 64 - a % 64 := by
          by_contra hle
          rw [hdrop] at hbound
          omega
        simp only [List.take_succ_cons, List.map_cons, List.sum_cons, htake, List.length_cons]
        refine ⟨by rw [hstart]; omega, hone, hline, ?_, by omega⟩
        exact hend.imp (fun h => by omega) id

/-- The pieces of a write within the address space: consecutive ranges cut at the line boundaries (R164). -/
theorem pieces_of_write {r : UpRequest} {bs : List (Option Byte)} (hkind : r.kind = .write bs)
    (hrange : passesAddressSpace r = false) :
    ((pieces r).map Prod.snd).flatten = bs ∧ ∀ (i : Nat) (p : Addr × List (Option Byte)), (pieces r)[i]? = some p →
      p.1.toNat = r.addr.toNat + (((pieces r).take i).map fun x => x.2.length).sum ∧ 1 ≤ p.2.length ∧
        posOf p.1 + p.2.length ≤ 64 ∧ (i + 1 = (pieces r).length ∨ posOf p.1 + p.2.length = 64) := by
  have hlen : r.length = bs.length := by simp [UpRequest.length, hkind]
  have hbytes : requestBytes r = bs := by simp [requestBytes, hkind]
  have hroom : r.addr.toNat + bs.length ≤ 2 ^ 48 := by
    rw [← hlen]; exact Nat.not_lt.mp (of_decide_eq_false hrange)
  unfold pieces
  rw [hlen, hbytes]
  constructor
  · rw [List.map_map]
    exact cutLines_flatten bs.length r.addr.toNat bs (Nat.le_refl _)
  · intro i p hp
    rw [List.getElem?_map, Option.map_eq_some_iff] at hp
    obtain ⟨⟨start, part⟩, hq, rfl⟩ := hp
    obtain ⟨hstart, hone, hline, hend, hbound⟩ := cutLines_getElem? _ _ _ (Nat.le_refl _) i (start, part) hq
    have hnat : (BitVec.ofNat 48 start).toNat = start := by
      rw [BitVec.toNat_ofNat, Nat.mod_eq_of_lt (by simp only at hone hbound; omega)]
    simp only [posOf, hnat, ← List.map_take, List.map_map, List.length_map]
    exact ⟨hstart, hone, hline, hend⟩

/-! ### The statements -/

/-- Settles O17: the pieces by the cut at the lines, the end of a walk with no piece left, and the next piece by the case of its
settlement. -/
theorem walkSettlesPieceByPiece : Obligations.WalkSettlesPieceByPiece := by
  unfold Obligations.WalkSettlesPieceByPiece
  intro s r bs k hhead hkind hrange hmarker hmode hk evaluated ended
  have hwrite : WriteAtHead s r bs := ⟨hhead, hkind, hrange, hmarker, hmode⟩
  refine ⟨pieces_of_write hkind hrange, fun f hf => exec_of_write_of_recorded hwrite hk hf, fun hf hdone => ?_,
    fun p rest hf hpieces => ?_⟩
  · intro issued
    have hexec : evaluated = .next (s.completeWalk (requesterOf r) k) := by
      rw [show evaluated = _ from exec_of_write hwrite hk hf, hdone]; rfl
    refine ⟨fun hnone => hexec.trans (congrArg _ (completeWalk_of_none _ hnone)), fun hsome => ?_⟩
    obtain ⟨v, hv, hctx⟩ := completeWalk_of_issued (s := s) (requesterOf r) hhead.2.2 hsome
    refine ⟨_, hexec, fun c => ?_, by rw [hv]; rfl⟩
    rw [hv]
    refine (hctx c).trans ?_
    cases s.ctx c <;> rfl
  · intro line bytes goesOn waits
    have hgoes {x : Settled} {t : State} {cleared : List ClearedPiece} {placed : List ContextIx}
        (hsettle : s.settlePiece r.initiator p = (x, t)) (hing : t.ingress = s.ingress)
        (h' : WriteAtHead (atWalk t (some ⟨k.settled + 1, k.cleared ++ cleared, k.placed ++ placed, none⟩)) r bs)
        (hx : Progressed k x ⟨k.settled + 1, k.cleared ++ cleared, k.placed ++ placed, none⟩) :
        evaluated = goesOn t cleared placed := by
      have hexec := exec_of_write_of_progress hwrite h' hk hf hpieces hsettle hx rfl rfl
      unfold atWalk at hexec
      rwa [hing] at hexec
    have hplain (k' : Walk) : WriteAtHead (atWalk s (some k')) r bs := ⟨hhead, hkind, hrange, hmarker, hmode⟩
    have hwaits {w : HeadWait} (hsettle : s.settlePiece r.initiator p = (.waiting w, s)) : evaluated = waits w :=
      exec_of_write_of_waiting hwrite hk hf hpieces hsettle
    refine ⟨fun hw => ?_, fun w hw => ⟨fun hunbound => ?_, fun c o why since orphan hbound hctx => ?_,
      fun c o f since idle hbound hctx => ?_⟩⟩
    · exact hgoes (settlePiece_of_outside hw) rfl (hplain _) (progressed_cleared _ hf)
    · intro blocked
      refine ⟨fun hfree => ?_, fun hblocked => hwaits (settlePiece_of_blocked hw (bound_of_none hunbound) hblocked)⟩
      exact hgoes (settlePiece_of_bare hw (bound_of_none hunbound) hfree) rfl (hplain _) (progressed_cleared _ hf)
    · exact exec_of_write_of_failed hwrite hk hf hpieces (settlePiece_of_failed hw (bound_of_failed hbound hctx))
    · intro touched last newSlot tooLong full
      have hb := bound_of_opened hbound hctx
      refine ⟨fun hempty => ?_, fun hbytes => ⟨fun h hlast hown => ?_, fun n hnew hfits hunused hlow => ?_,
        fun why hwhy => ?_, fun hnew hfits hfull hpolicy => ?_⟩⟩
      · exact hgoes (settlePiece_of_empty hw hb hempty) rfl (hplain _) (by simp [Progressed, hf])
      · exact hgoes ((settlePiece_of_opened hw hb hbytes).trans (placePiece_of_own hctx hlast hown)) rfl
          ⟨hhead, hkind, hrange, hmarker, hmode⟩ (by simp [Progressed, hf])
      · have hplace := (placePiece_of_new (w := w) (bytes := pieceBytes p) hnew).trans
          (placeNew_of_free hctx hfits (State.freeSlot_eq_some hunused hlow))
        exact hgoes ((settlePiece_of_opened hw hb hbytes).trans hplace) rfl ⟨hhead, hkind, hrange, hmarker, hmode⟩
          (by simp [Progressed, hf])
      · refine (exec_of_write_of_failed hwrite hk hf hpieces (settlePiece_of_why hw hb hbytes hwhy)).trans (congrArg _ ?_)
        exact failContext_endRequest why _ _ _ hctx
      · exact hwaits (((settlePiece_of_opened hw hb hbytes).trans (placePiece_of_new hnew)).trans
          (placeNew_of_stall hfits (State.freeSlot_eq_none hfull) hpolicy))

/-- A data write within one line is one piece, which a fresh walk takes first (R54, R164). -/
theorem pieces_drop_fresh {r : UpRequest} {bs : List (Option Byte)} (hkind : r.kind = .write bs) (h1 : 1 ≤ bs.length)
    (hline : posOf r.addr + bs.length ≤ 64) : (pieces r).drop Walk.fresh.settled = [(r.addr, bs)] :=
  pieces_of_one_line hkind h1 hline

theorem length_pos_of_any {bs : List (Option Byte)} (h : bs.any Option.isSome = true) : 1 ≤ bs.length := by
  obtain ⟨b, hb, -⟩ := List.any_eq_true.mp h
  exact List.length_pos_of_mem hb

/-- Settles O15: the one piece fails by its first failing check, or waits for a slot. -/
theorem boundWriteFailsOrWaits : Obligations.BoundWriteFailsOrWaits := by
  unfold Obligations.BoundWriteFailsOrWaits
  intro s r bs w c o f since idle hhead hwalk hkind hrange hline hany hmarker hmode hw hbound hctx line last conflict newSlot
    tooLong full
  have hwrite : WriteAtHead s r bs := ⟨hhead, hkind, hrange, hmarker, .inl hmode⟩
  have hk : Walk.fresh = s.ingress.walk.getD Walk.fresh := by rw [hwalk]; rfl
  have hpieces := pieces_drop_fresh hkind (length_pos_of_any hany) hline
  have hbytes : hasBytes (pieceBytes (r.addr, bs)) = true := (hasBytes_lineBytesAt hline).trans hany
  have hb := bound_of_opened hbound hctx
  refine ⟨fun why hwhy => ?_, fun hnew hfits hfull hpolicy => ?_⟩
  · refine (exec_of_write_of_failed hwrite hk rfl hpieces (settlePiece_of_why hw hb hbytes hwhy)).trans (congrArg _ ?_)
    exact failContext_endRequest why _ _ _ hctx
  · exact exec_of_write_of_waiting hwrite hk rfl hpieces (((settlePiece_of_opened hw hb hbytes).trans
      (placePiece_of_new hnew)).trans (placeNew_of_stall hfits (State.freeSlot_eq_none hfull) hpolicy))

/-- The end of a walk over one piece that is settled and lets the walk complete. -/
theorem exec_of_one_piece {s : State} {r : UpRequest} {bs : List (Option Byte)} {x : Settled} {k' : Walk}
    (h : WriteAtHead s r bs) (hwalk : s.ingress.walk = none) (hpieces : (pieces r).drop Walk.fresh.settled = [(r.addr, bs)])
    (hsettle : s.settlePiece r.initiator (r.addr, bs) = (x, s)) (hx : Progressed Walk.fresh x k') :
    exec .headEvaluation s = .next (s.completeWalk (requesterOf r) k') := by
  have hk : Walk.fresh = s.ingress.walk.getD Walk.fresh := by rw [hwalk]; rfl
  rw [exec_of_write h hk rfl, hpieces, walkPieces_cons [] hsettle hx]
  rfl

/-- Settles O16: the one piece ends the request, waits, or is cleared and then issued or answered. -/
theorem writeNotHeldPassesWaitsOrFails : Obligations.WriteNotHeldPassesWaitsOrFails := by
  unfold Obligations.WriteNotHeldPassesWaitsOrFails
  intro s r bs hhead hwalk hkind hrange hlen hline hmarker line bytes issued answered committed
  have hk : Walk.fresh = s.ingress.walk.getD Walk.fresh := by rw [hwalk]; rfl
  have hpieces := pieces_drop_fresh hkind hlen hline
  have hbytes : hasBytes (pieceBytes (r.addr, bs)) = bs.any Option.isSome := hasBytes_lineBytesAt hline
  have hempty {q : ClearedPiece} (hq : hasBytes q.bytes = false) :
      (([] ++ [q] : List ClearedPiece).filter fun p => hasBytes p.bytes) = [] := by simp [hq]
  have hfull {q : ClearedPiece} (hq : hasBytes q.bytes = true) :
      (([] ++ [q] : List ClearedPiece).filter fun p => hasBytes p.bytes) = [q] := by simp [hq]
  have hcleared {q : ClearedPiece} (hwrite : WriteAtHead s r bs)
      (hsettle : s.settlePiece r.initiator (r.addr, bs) = (.cleared q, s)) :
      exec .headEvaluation s = .next (s.completeWalk (requesterOf r) ⟨1, [] ++ [q], [], none⟩) :=
    exec_of_one_piece hwrite hwalk hpieces hsettle rfl
  have hissue {q : ClearedPiece} (hq : hasBytes q.bytes = true) :
      s.completeWalk (requesterOf r) ⟨1, [] ++ [q], [], none⟩ =
        ((s.interfere q).handOver (requesterOf r) [.write q.line q.bytes]).leaveHead := by
    unfold State.completeWalk
    rw [hfull hq]
    rfl
  have hhand := hhead.2.2
  refine ⟨fun hw => ?_, fun w hw hmode => ?_⟩
  · have hfirst : s.firstJournalPiece r = none := by
      unfold State.firstJournalPiece
      rw [pieces_of_one_line hkind hlen hline]
      simp [hw]
    have hwrite : WriteAtHead s r bs := ⟨hhead, hkind, hrange, hmarker, .inr hfirst⟩
    have hexec := hcleared hwrite (settlePiece_of_outside hw)
    refine ⟨fun hany => hexec.trans (congrArg _ ?_), fun hany => hexec.trans (congrArg _ ?_)⟩
    · rw [hissue (hbytes.trans hany)]
      simp only [State.interfere, Bool.false_eq_true, if_false, State.handOver, hhand]
      rfl
    · exact completeWalk_of_none _ (hempty (hbytes.trans hany))
  · have hwrite : WriteAtHead s r bs := ⟨hhead, hkind, hrange, hmarker, .inl hmode⟩
    refine ⟨fun c o why since orphan hbound hctx =>
        exec_of_write_of_failed hwrite hk rfl hpieces (settlePiece_of_failed hw (bound_of_failed hbound hctx)),
      fun c o f since idle hbound hctx hany => ?_, fun hunbound => ?_⟩
    · refine (exec_of_one_piece hwrite hwalk hpieces
        (settlePiece_of_empty hw (bound_of_opened hbound hctx) (hbytes.trans hany)) rfl).trans (congrArg _ ?_)
      exact completeWalk_of_none _ rfl
    · have hb := bound_of_none hunbound
      refine ⟨fun hany => ?_, fun hany hcommitted => ?_, fun hany hfree => ?_⟩
      · have hexec := hcleared hwrite (settlePiece_of_bare hw hb fun h => by rw [hbytes, hany] at h; cases h.1)
        exact hexec.trans (congrArg _ (completeWalk_of_none _ (hempty (hbytes.trans hany))))
      · exact exec_of_write_of_waiting hwrite hk rfl hpieces
          (settlePiece_of_blocked hw hb ⟨hbytes.trans hany, hcommitted⟩)
      · have hexec := hcleared hwrite (settlePiece_of_bare hw hb fun h => hfree h.2)
        rw [hissue (hbytes.trans hany)] at hexec
        refine ⟨fun h o f since idle hlast hctx => hexec.trans (congrArg _ ?_), fun hlast => hexec.trans (congrArg _ ?_)⟩
        · have hlast' : (s.chain (lineOf r.addr)).getLast? = some h := hlast
          simp only [State.interfere, if_true, hlast', State.setInterfered, hctx, State.handOver, State.setCtx_ingress, hhand]
          rfl
        · have hlast' : (s.chain (lineOf r.addr)).getLast? = none := hlast
          simp only [State.interfere, if_true, hlast', State.handOver, hhand]
          rfl

end Sys2Proof.Proofs.DataWrites
end

section
/-! PROOF. The ends of an evaluation of the head, and the overlays of a read. -/

namespace Sys2Proof.Proofs.HeadEnds
open Sys2Proof Sys2Proof.Machine Sys2Proof.Proofs.DataWrites Sys2Proof.Proofs.HeadAndTimers

/-! ### The parts of the state by which an end of the evaluation is told -/

/-- The evaluation has so far answered nothing, issued nothing and taken no tracking entry. -/
structure Untouched (s u : State) : Prop where
  dnOut : u.dnOut = s.dnOut
  queue : u.ingress.queue = s.ingress.queue
  handOver : u.ingress.handOver = s.ingress.handOver
  answers : u.ingress.answers = s.ingress.answers
  nextAnswer : u.ingress.nextAnswer = s.ingress.nextAnswer
  tracking : u.tracking = s.tracking
  upOut : u.upOut = s.upOut

theorem Untouched.of_walkFrame {s u : State} (h : s.WalkFrame u) : Untouched s u := by
  obtain ⟨_, _, _, _, _, rfl⟩ := h
  exact ⟨rfl, rfl, rfl, rfl, rfl, rfl, rfl⟩

/-- The first end: one answer (R57, R162). -/
def Answered (s : State) (q : Requester) (t : State) : Prop :=
  t.ingress.queue = s.ingress.queue.tail ∧ t.ingress.wait = none ∧ t.ingress.handOver = [] ∧
    t.ingress.answers = s.ingress.answers ∧ t.tracking = s.tracking ∧ ∃ code, t.upOut = s.upOut ++ [⟨q, code⟩]

/-- The second end: requests handed over that one pending answer counts (R166, R169). -/
def HandedOver (s : State) (q : Requester) (t : State) : Prop :=
  t.ingress.queue = s.ingress.queue.tail ∧ t.ingress.wait = none ∧ t.upOut = s.upOut ∧ t.tracking = s.tracking ∧
    t.ingress.handOver ≠ [] ∧ (∀ h ∈ t.ingress.handOver, h.ref = .pendingAnswer s.ingress.nextAnswer) ∧
    t.ingress.answers = s.ingress.answers ++ [⟨s.ingress.nextAnswer, q, t.ingress.handOver.length, false⟩]

/-- The second end for a read with overlays: one READ that a tracking entry accounts for (R70). -/
def Tracked (s : State) (q : Requester) (t : State) : Prop :=
  t.ingress.queue = s.ingress.queue.tail ∧ t.ingress.wait = none ∧ t.upOut = s.upOut ∧
    t.ingress.answers = s.ingress.answers ∧ ∃ (k : EntryNo) (e : TrackEntry) (d : DownRequest),
      s.trackEntry k = none ∧ e.requester = q ∧ t.tracking = s.tracking.set k (some e) ∧
      t.ingress.handOver = [⟨d, .tracking k, false⟩]

/-- The third end: a COMMIT whose answer its context holds (R34). -/
def Held (s : State) (q : Requester) (t : State) : Prop :=
  t.ingress.queue = s.ingress.queue.tail ∧ t.ingress.wait = none ∧ t.upOut = s.upOut ∧ t.ingress.handOver = [] ∧
    t.ingress.answers = s.ingress.answers ∧ t.tracking = s.tracking ∧
    ∃ c, (t.ctx c).isQueued = true ∧ (t.ctx c).pending? = some q ∧ t.writer.commitQueue = s.writer.commitQueue ++ [c]

/-- The fourth end: a timed wait with nothing issued and nothing answered (R167). -/
def Waits (s t : State) : Prop :=
  t.ingress.queue = s.ingress.queue ∧ t.ingress.wait.isSome = true ∧ t.ingress.timer.isSome = true ∧
    t.ingress.handOver = [] ∧ t.ingress.answers = s.ingress.answers ∧ t.upOut = s.upOut ∧ t.tracking = s.tracking

/-- The four ends of an evaluation (R165). -/
def Ends (s : State) (q : Requester) (t : State) : Prop :=
  t.dnOut = s.dnOut ∧ (Answered s q t ∨ HandedOver s q t ∨ Tracked s q t ∨ Held s q t ∨ Waits s t)

section Ends

variable {s u : State} {q : Requester}

theorem ends_endRequest (h : Untouched s u) (hhand : s.ingress.handOver = []) (code : AnswerCode) :
    Ends s q (u.endRequest q code) :=
  ⟨h.dnOut, .inl ⟨congrArg List.tail h.queue, rfl, h.handOver.trans hhand, h.answers, h.tracking, code,
    congrArg (· ++ _) h.upOut⟩⟩

/-- An event pushed beside the answer makes no difference to the end. -/
theorem ends_push_endRequest (h : Untouched s u) (hhand : s.ingress.handOver = []) (code : AnswerCode) (b : EventBody) :
    Ends s q ((u.endRequest q code).push b) := by
  rw [State.push_eq]
  exact ends_endRequest h hhand code

theorem ends_enterWait (h : Untouched s u) (hhand : s.ingress.handOver = []) (w : HeadWait) (k : Option Walk) :
    Ends s q (u.enterWait w k) :=
  ⟨h.dnOut, .inr (.inr (.inr (.inr ⟨h.queue, rfl, rfl, h.handOver.trans hhand, h.answers, h.upOut, h.tracking⟩)))⟩

/-- Requests handed over with one pending answer that counts them are the second end (R169). -/
theorem ends_handOver (h : Untouched s u) (hhand : s.ingress.handOver = []) {ds : List DownRequest} (hds : ds ≠ []) :
    Ends s q (u.handOver q ds).leaveHead := by
  have hlist : u.ingress.handOver ++ ds.map (fun d => (⟨d, .pendingAnswer u.ingress.nextAnswer, false⟩ : HandOver)) =
      ds.map fun d => ⟨d, .pendingAnswer s.ingress.nextAnswer, false⟩ := by
    rw [h.handOver, hhand, h.nextAnswer, List.nil_append]
  refine ⟨h.dnOut, .inr (.inl ⟨congrArg List.tail h.queue, rfl, h.upOut, h.tracking, ?_, ?_, ?_⟩)⟩
  · exact (congrArg (· ≠ []) hlist).mpr (by simpa using hds)
  · intro x hx
    have hx' : x ∈ ds.map fun d => (⟨d, .pendingAnswer s.ingress.nextAnswer, false⟩ : HandOver) := hlist ▸ hx
    obtain ⟨d, -, rfl⟩ := List.mem_map.mp hx'
    rfl
  · show u.ingress.answers ++ [⟨u.ingress.nextAnswer, q, ds.length, false⟩] = s.ingress.answers ++
      [⟨s.ingress.nextAnswer, q, (u.ingress.handOver ++ ds.map _).length, false⟩]
    rw [hlist, h.answers, h.nextAnswer, List.length_map]

end Ends

/-! ### Markers (R19–R24) -/

section Markers

variable {s : State} {r : UpRequest} {w : WindowIx} {a : Addr} {v : Word64}

theorem ends_refuseMarker (hhand : s.ingress.handOver = []) (why : MarkerRefusal) (c : Option ContextIx) :
    Ends s (requesterOf r) (s.refuseMarker ⟨requesterOf r, w, a, v⟩ why c).leaveHead := by
  unfold State.refuseMarker
  rw [State.push_leaveHead]
  exact ends_push_endRequest (u := s) ⟨rfl, rfl, rfl, rfl, rfl, rfl, rfl⟩ hhand _ _

theorem ends_openMarker (hhand : s.ingress.handOver = []) :
    Ends s (requesterOf r) (s.openMarker ⟨requesterOf r, w, a, v⟩).leaveHead := by
  unfold State.openMarker
  by_cases hmode : s.mode ≠ .online
  · rw [if_pos hmode]; exact ends_refuseMarker hhand _ _
  · rw [if_neg hmode]
    cases s.boundContext (requesterOf r).initiator w with
    | some c => exact ends_refuseMarker hhand _ _
    | none =>
      cases s.freeContext with
      | none => exact ends_refuseMarker hhand _ _
      | some c => exact ends_endRequest (u := (s.setCtx c _).bind _ _ c) ⟨rfl, rfl, rfl, rfl, rfl, rfl, rfl⟩ hhand _

/-- A COMMIT of lines is answered at once, or held by its context (R34). -/
theorem ends_commitQueued (hhand : s.ingress.handOver = []) (c : ContextIx) (o : Owner) (f : Bool) :
    Ends s (requesterOf r) (s.commitQueued ⟨requesterOf r, w, a, v⟩ c o f).leaveHead := by
  unfold State.commitQueued
  cases (s.window w).ackMode with
  | early =>
    exact ends_endRequest (s := s) (q := requesterOf r) (code := .ok [])
      (u := ((s.setCtx c (.queued o f ⟨markerTag v, a, v⟩ none)).unbind r.initiator w).enqueueCommit c)
      ⟨rfl, rfl, rfl, rfl, rfl, rfl, rfl⟩ hhand
  | durable =>
    have hctx : (s.setCtx c (.queued o f ⟨markerTag v, a, v⟩ (some (requesterOf r)))).ctx c = _ := s.setCtx_ctx_self c _
    refine ⟨rfl, .inr (.inr (.inr (.inl ⟨rfl, rfl, rfl, hhand, rfl, rfl, c, ?_, ?_, rfl⟩)))⟩
    · exact (congrArg Context.isQueued hctx).trans rfl
    · exact (congrArg Context.pending? hctx).trans rfl

theorem ends_commitMarker (hhand : s.ingress.handOver = []) :
    Ends s (requesterOf r) (s.commitMarker ⟨requesterOf r, w, a, v⟩).leaveHead := by
  unfold State.commitMarker
  cases s.boundContext (requesterOf r).initiator w with
  | none => exact ends_refuseMarker hhand _ _
  | some c =>
    cases hctx : s.ctx c with
    | failed o why since orphan =>
      simp only [hctx]
      exact ends_endRequest (u := (s.setCtx c .free).unbind _ w) ⟨rfl, rfl, rfl, rfl, rfl, rfl, rfl⟩ hhand _
    | opened o f since idle =>
      simp only [hctx]
      by_cases hnone : s.entryCount c = 0
      · rw [if_pos hnone]
        exact ends_endRequest (u := (s.setCtx c .free).unbind _ w) ⟨rfl, rfl, rfl, rfl, rfl, rfl, rfl⟩ hhand _
      · rw [if_neg hnone]; exact ends_commitQueued hhand c o f
    | _ => simp only [hctx]; exact ends_refuseMarker hhand _ _

theorem ends_abortMarker (hhand : s.ingress.handOver = []) :
    Ends s (requesterOf r) (s.abortMarker ⟨requesterOf r, w, a, v⟩).leaveHead := by
  unfold State.abortMarker
  cases s.boundContext (requesterOf r).initiator w with
  | none => exact ends_refuseMarker hhand _ _
  | some c =>
    cases hctx : s.ctx c with
    | failed o why since orphan =>
      simp only [hctx]
      exact ends_endRequest (u := (s.setCtx c .free).unbind _ w) ⟨rfl, rfl, rfl, rfl, rfl, rfl, rfl⟩ hhand _
    | opened o f since idle =>
      have hu : Untouched s (((s.discard c).setCtx c .free).unbind (requesterOf r).initiator w) := by
        rw [State.discard_eq]; exact ⟨rfl, rfl, rfl, rfl, rfl, rfl, rfl⟩
      simp only [hctx, State.pushIf]
      by_cases hevent : (s.window w).abortedEvent = true
      · rw [if_pos hevent, State.push_leaveHead]; exact ends_push_endRequest hu hhand _ _
      · rw [if_neg hevent]; exact ends_endRequest hu hhand _
    | _ => simp only [hctx]; exact ends_refuseMarker hhand _ _

end Markers

/-! ### Reads and data writes -/

/-- The lowest unused number is not in use (R48, R70). -/
theorem lowestUnused_not_mem {used : List Nat} {j : Nat} : ∀ m n, lowestUnused used m n = some j → j ∉ used := by
  intro m
  induction m with
  | zero => intro n h; cases h
  | succ m ih =>
    intro n h
    unfold lowestUnused at h
    by_cases hn : n ∈ used
    · rw [if_pos hn] at h; exact ih _ h
    · rw [if_neg hn] at h; cases h; exact hn

theorem freeEntry_trackEntry {s : State} {k : EntryNo} (h : s.freeEntry = some k) : s.trackEntry k = none := by
  by_contra hne
  unfold State.freeEntry at h
  cases hl : lowestUnused ((List.range 32).filter fun k => (s.tracking[k]?.getD none).isSome) 32 0 with
  | none => rw [hl] at h; cases h
  | some j =>
    rw [hl] at h
    by_cases hj : j < 32
    · simp only [dif_pos hj, Option.some.injEq] at h
      subst h
      exact lowestUnused_not_mem _ _ hl ((mem_activeEntries hj).mpr hne)
    · simp only [dif_neg hj] at h
      cases h

theorem ends_evaluateRead {s : State} (hhand : s.ingress.handOver = []) (r : UpRequest) :
    Ends s (requesterOf r) (s.evaluateRead r) := by
  have hself : Untouched s s := ⟨rfl, rfl, rfl, rfl, rfl, rfl, rfl⟩
  unfold State.evaluateRead
  cases s.firstJournalPiece r with
  | none => exact ends_handOver hself hhand (List.cons_ne_nil _ _)
  | some first =>
    by_cases hnone : s.overlays r = []
    · simp only [if_pos hnone]
      exact ends_handOver hself hhand (List.cons_ne_nil _ _)
    · simp only [if_neg hnone]
      cases hfree : s.freeEntry with
      | none => exact ends_enterWait hself hhand _ _
      | some k =>
        refine ⟨rfl, .inr (.inr (.inl ⟨rfl, rfl, rfl, rfl, k, ⟨requesterOf r, r.addr, r.length, s.overlays r⟩,
          .read r.addr r.length, freeEntry_trackEntry hfree, rfl, rfl, ?_⟩))⟩
        show s.ingress.handOver ++ _ = _
        rw [hhand]
        rfl

theorem ends_completeWalk {s u : State} (h : Untouched s u) (hhand : s.ingress.handOver = []) (q : Requester) (k : Walk) :
    Ends s q (u.completeWalk q k) := by
  by_cases hnone : k.cleared.filter (fun p => hasBytes p.bytes) = []
  · rw [completeWalk_of_none q hnone]; exact ends_endRequest h hhand _
  · obtain ⟨v, hv, -⟩ := foldl_interfere_eq (k.cleared.filter fun p => hasBytes p.bytes) u
    unfold State.completeWalk
    simp only [if_neg hnone, hv]
    exact ends_handOver (s := s) (u := { u with contexts := v }) ⟨h.dnOut, h.queue, h.handOver, h.answers, h.nextAnswer, h.tracking, h.upOut⟩ hhand
      (fun h => hnone (List.map_eq_nil_iff.mp h))

theorem ends_evaluateWrite {s : State} (hhand : s.ingress.handOver = []) (r : UpRequest) :
    Ends s (requesterOf r) (s.evaluateWrite r) := by
  unfold State.evaluateWrite
  cases hf : (s.ingress.walk.getD Walk.fresh).failed with
  | some f => simp only [hf]; exact ends_endRequest ⟨rfl, rfl, rfl, rfl, rfl, rfl, rfl⟩ hhand _
  | none =>
    simp only [hf]
    have hu := Untouched.of_walkFrame (State.walkFrame_walkPieces r.initiator
      ((pieces r).drop (s.ingress.walk.getD Walk.fresh).settled) (s.ingress.walk.getD Walk.fresh) s)
    revert hu
    rcases walkPieces r.initiator ((pieces r).drop (s.ingress.walk.getD Walk.fresh).settled)
      (s.ingress.walk.getD Walk.fresh) s with ⟨_ | f | w, k, t⟩ <;> intro hu
    · exact ends_completeWalk hu hhand _ k
    · exact ends_endRequest hu hhand _
    · exact ends_enterWait hu hhand _ _

/-- Every evaluation comes to an end of R165, by its first step that applies. -/
theorem ends_evaluate {s : State} (hhand : s.ingress.handOver = []) (r : UpRequest) :
    Ends s (requesterOf r) (s.evaluate r) := by
  have hself : Untouched s s := ⟨rfl, rfl, rfl, rfl, rfl, rfl, rfl⟩
  by_cases hrange : passesAddressSpace r = true
  · unfold State.evaluate
    rw [if_pos hrange]
    exact ends_endRequest hself hhand _
  · have hin : passesAddressSpace r = false := by simpa using hrange
    cases hcheck : s.markerCheck r with
    | malformed w a d =>
      rw [evaluate_of_malformed hin hcheck]
      unfold State.refuseMalformed
      rw [State.push_leaveHead]
      exact ends_push_endRequest hself hhand _ _
    | marker w a cmd v =>
      by_cases hwait : ∃ first, s.firstJournalPiece r = some first ∧ s.mode.evaluates = false
      · obtain ⟨first, hfirst, hmode⟩ := hwait
        rw [evaluate_of_modeWait hin (by simp [hcheck]) hfirst hmode]
        exact ends_enterWait hself hhand _ _
      · have hmarker : s.evaluate r = (s.marker ⟨requesterOf r, w, a, v⟩ cmd).leaveHead := by
          unfold State.evaluate
          rw [if_neg (by simp [hin])]
          simp only [hcheck]
          cases hfirst : s.firstJournalPiece r with
          | none => rfl
          | some first =>
            have hmode : s.mode.evaluates ≠ false := fun h => hwait ⟨first, hfirst, h⟩
            cases hm : s.mode <;> simp_all [Mode.evaluates]
        rw [hmarker]
        cases cmd with
        | openTxn => exact ends_openMarker hhand
        | commitTxn => exact ends_commitMarker hhand
        | abortTxn => exact ends_abortMarker hhand
    | none =>
      by_cases hwait : ∃ first, s.firstJournalPiece r = some first ∧ s.mode.evaluates = false
      · obtain ⟨first, hfirst, hmode⟩ := hwait
        rw [evaluate_of_modeWait hin (by simp [hcheck]) hfirst hmode]
        exact ends_enterWait hself hhand _ _
      · have hmode : s.mode.evaluates = true ∨ s.firstJournalPiece r = none := by
          cases hfirst : s.firstJournalPiece r with
          | none => exact .inr rfl
          | some first => exact .inl (by simpa using fun h => hwait ⟨first, hfirst, h⟩)
        cases hkind : r.kind with
        | read n => rw [State.evaluate_read hin hkind hmode]; exact ends_evaluateRead hhand r
        | write bs => rw [State.evaluate_write hin hkind hcheck hmode]; exact ends_evaluateWrite hhand r

/-- Settles O18: the head's evaluation comes to one of the ends. -/
theorem headEndsOnceOrWaits : Obligations.HeadEndsOnceOrWaits := by
  unfold Obligations.HeadEndsOnceOrWaits
  intro s r hhead
  exact ⟨s.evaluate r, exec_headEvaluation_of_head hhead, ends_evaluate hhead.2.2 r⟩

end Sys2Proof.Proofs.HeadEnds

namespace Sys2Proof.Proofs.Overlays
open Sys2Proof Sys2Proof.Machine

/-! ### Line addresses as numbers -/

/-- A mask of the high bits rounds a number down. -/
theorem and_mask {a n k : Nat} (ha : a < 2 ^ n) (hk : k ≤ n) : a &&& (2 ^ n - 2 ^ k) = a / 2 ^ k * 2 ^ k := by
  obtain ⟨m, rfl⟩ := Nat.exists_eq_add_of_le hk
  have hmask : 2 ^ (k + m) - 2 ^ k = (2 ^ m - 1) * 2 ^ k := by rw [Nat.sub_mul, Nat.one_mul, Nat.pow_add, Nat.mul_comm]
  rw [hmask]
  refine Nat.eq_of_testBit_eq fun i => ?_
  rw [Nat.testBit_and, Nat.testBit_mul_two_pow, Nat.testBit_mul_two_pow, Nat.testBit_two_pow_sub_one, Nat.testBit_div_two_pow]
  by_cases hi : k ≤ i
  · have hki : i - k + k = i := Nat.sub_add_cancel hi
    rw [decide_eq_true hi, Bool.true_and, Bool.true_and, hki]
    by_cases hm : i - k < m
    · simp [hm]
    · have hhigh : a.testBit i = false :=
        Nat.testBit_lt_two_pow (Nat.lt_of_lt_of_le ha (Nat.pow_le_pow_right (by decide) (by omega)))
      simp [hhigh]
  · simp [hi]

theorem lineOf_toNat (a : Addr) : (lineOf a).toNat = a.toNat / 64 * 64 := by
  unfold lineOf
  rw [BitVec.toNat_and]
  exact and_mask (n := 48) (k := 6) a.isLt (by decide)

theorem lineOf_eq_iff (a b : Addr) : lineOf a = lineOf b ↔ a.toNat / 64 = b.toNat / 64 := by
  rw [← BitVec.toNat_inj, lineOf_toNat, lineOf_toNat]
  omega

theorem ofNat_toNat {x : Nat} (h : x < 2 ^ 48) : (BitVec.ofNat 48 x).toNat = x := by
  rw [BitVec.toNat_ofNat, Nat.mod_eq_of_lt h]

/-! ### The bytes of one line (R67, R68) -/

theorem layOver_getD {u t : LineBytes} (k : Nat) (hu : u.length = 64) (ht : t.length = 64) :
    ((layOver u t)[k]?).getD none = ((t[k]?).getD none <|> (u[k]?).getD none) := by
  by_cases hk : k < 64
  · rw [layOver_getElem? k hu ht hk, List.getElem?_eq_getElem (by omega), List.getElem?_eq_getElem (by omega)]
    rfl
  · rw [List.getElem?_eq_none (by rw [layOver_length hu ht]; omega), List.getElem?_eq_none (by omega),
      List.getElem?_eq_none (by omega)]
    rfl

/-- Laying slots over one another, later over earlier, leaves at each position the byte of the latest slot that has one. -/
theorem foldl_layOver_getD (k : Nat) (l : List HeldSlot) : ∀ acc : LineBytes, acc.length = 64 →
    (∀ h ∈ l, h.bytes.length = 64) →
    ((l.foldl (fun acc h => layOver acc h.bytes) acc)[k]?).getD none =
      (l.reverse.findSome? (fun h => (h.bytes[k]?).getD none) <|> (acc[k]?).getD none) := by
  induction l with
  | nil => intro acc _ _; rfl
  | cons h l ih =>
    intro acc hacc hlen
    have hh := hlen h (List.mem_cons_self ..)
    rw [List.foldl_cons, ih _ (layOver_length hacc hh) (fun x hx => hlen x (List.mem_cons_of_mem _ hx)),
      layOver_getD k hacc hh, List.reverse_cons, List.findSome?_append]
    have hone : [h].findSome? (fun h => (h.bytes[k]?).getD none) = (h.bytes[k]?).getD none := by
      rw [List.findSome?_cons]; cases (h.bytes[k]?).getD none <;> rfl
    rw [hone]
    cases l.reverse.findSome? fun h => (h.bytes[k]?).getD none <;> rfl

theorem foldl_layOver_length (l : List HeldSlot) : ∀ acc : LineBytes, acc.length = 64 → (∀ h ∈ l, h.bytes.length = 64) →
    (l.foldl (fun acc h => layOver acc h.bytes) acc).length = 64 := by
  induction l with
  | nil => exact fun _ h _ => h
  | cons h l ih =>
    intro acc hacc hlen
    exact ih _ (layOver_length hacc (hlen h (List.mem_cons_self ..))) fun x hx => hlen x (List.mem_cons_of_mem _ hx)

/-- The byte of the youngest slot of the line that the reader may see and that holds one (R67, R68). -/
def youngestByte (s : State) (i : Initiator) (w : WindowIx) (line : Addr) (k : Nat) : Option Byte :=
  ((s.chain line).reverse.filter (s.seenBy i w)).findSome? fun h => (h.bytes[k]?).getD none

section Piece

variable {s : State} (hhold : ∀ h ∈ s.hold, h.bytes.length = 64) (i : Initiator) (w : WindowIx) (line : Addr)
include hhold

theorem seenSlots_length : ∀ h ∈ (s.chain line).filter (s.seenBy i w), h.bytes.length = 64 :=
  fun h hh => hhold h (List.mem_of_mem_filter (List.mem_of_mem_filter hh))

theorem seenBytes_getD {k : Nat} (hk : k < 64) :
    ((s.seenBytes i w line)[k]?).getD none = youngestByte s i w line k := by
  unfold State.seenBytes youngestByte
  rw [foldl_layOver_getD k _ emptyLine emptyLine_length (seenSlots_length hhold i w line), List.filter_reverse]
  have hempty : (emptyLine[k]?).getD none = none := by
    unfold emptyLine; rw [List.getElem?_replicate, if_pos hk]; rfl
  rw [hempty]
  cases ((s.chain line).filter (s.seenBy i w)).reverse.findSome? fun h => (h.bytes[k]?).getD none <;> rfl

theorem seenBytes_length : (s.seenBytes i w line).length = 64 :=
  foldl_layOver_length _ emptyLine emptyLine_length (seenSlots_length hhold i w line)

end Piece

/-- Inside the range the cut keeps a line's bytes (R67). -/
theorem cutToRange_getD {pos n k : Nat} {b : LineBytes} (hb : b.length = 64) (h1 : pos ≤ k) (h2 : k < pos + n) (h3 : k < 64) :
    ((cutToRange pos n b)[k]?).getD none = (b[k]?).getD none := by
  unfold cutToRange lineBytesAt
  rw [List.getElem?_take_of_lt h3, List.append_assoc, List.getElem?_append_right (by simpa using h1), List.length_replicate,
    List.getElem?_append_left (by rw [List.length_take, List.length_drop]; omega), List.getElem?_take_of_lt (by omega),
    List.getElem?_drop, Nat.add_sub_cancel' h1]

theorem getD_of_not_hasBytes {b : LineBytes} (h : hasBytes b = false) (k : Nat) : (b[k]?).getD none = none := by
  unfold hasBytes at h
  rw [List.any_eq_false] at h
  cases hk : b[k]? with
  | none => rfl
  | some x => simpa using h x (List.mem_of_getElem? hk)

/-! ### The overlays of the pieces (R66, R67) -/

theorem pieceOverlay_line {s : State} {i : Initiator} {p : Addr × List (Option Byte)} {o : Overlay}
    (h : s.pieceOverlay i p = some o) : o.line = lineOf p.1 := by
  unfold State.pieceOverlay at h
  cases hw : s.journalWindow p.1 with
  | none => rw [hw] at h; cases h
  | some w =>
    simp only [hw] at h
    split at h
    · cases h; rfl
    · cases h

/-- The overlays of the pieces of `bytes` from number `a` up. -/
def overlaysFrom (s : State) (i : Initiator) (k a : Nat) (bytes : List (Option Byte)) : List Overlay :=
  ((cutLines k a bytes).map fun p => (BitVec.ofNat 48 p.1, p.2)).filterMap (s.pieceOverlay i)

/-- No overlay of the pieces from `a` up stands on an earlier line. -/
theorem line_of_mem_overlaysFrom {s : State} {i : Initiator} : ∀ (k a : Nat) (bytes : List (Option Byte)),
    bytes.length ≤ k → a + bytes.length ≤ 2 ^ 48 → ∀ o ∈ overlaysFrom s i k a bytes, a / 64 * 64 ≤ o.line.toNat := by
  intro k a bytes hk hroom o ho
  unfold overlaysFrom at ho
  rw [List.mem_filterMap] at ho
  obtain ⟨p, hp, hpo⟩ := ho
  obtain ⟨⟨start, part⟩, hmem, rfl⟩ := List.mem_map.mp hp
  obtain ⟨j, hj⟩ := List.getElem?_of_mem hmem
  obtain ⟨hstart, hone, -, -, hbound⟩ := DataWrites.cutLines_getElem? k a bytes hk j _ hj
  rw [pieceOverlay_line hpo, lineOf_toNat, ofNat_toNat (by simp only at hbound hone; omega)]
  exact Nat.mul_le_mul_right _ (Nat.div_le_div_right (by rw [hstart]; omega))

theorem overlayByte_of_later {os : List Overlay} {x : Nat} (h : ∀ o ∈ os, x / 64 * 64 < o.line.toNat) :
    overlayByte os x = none := by
  unfold overlayByte
  rw [List.find?_eq_none.mpr fun o ho => by have := h o ho; simp; omega]

/-- What a reader's overlays give at an address (R67, R68). -/
def seenByte (s : State) (i : Initiator) (x : Nat) : Option Byte :=
  match s.journalWindow (BitVec.ofNat 48 x) with
  | none => none
  | some w => youngestByte s i w (lineOf (BitVec.ofNat 48 x)) (x % 64)

theorem journalWindow_of_line (s : State) {a b : Addr} (h : lineOf a = lineOf b) : s.journalWindow a = s.journalWindow b := by
  unfold State.journalWindow; rw [h]

theorem overlayByte_cons (o : Overlay) (os : List Overlay) (x : Nat) : overlayByte (o :: os) x =
    if o.line.toNat = x / 64 * 64 then (o.bytes[x % 64]?).getD none else overlayByte os x := by
  unfold overlayByte
  rw [List.find?_cons]
  by_cases h : o.line.toNat = x / 64 * 64
  · rw [if_pos h]; simp [h]
  · rw [if_neg h]; simp [h]

/-- The piece that holds an address gives its byte, and no other piece stands on its line. -/
theorem overlayByte_overlaysFrom {s : State} (hhold : ∀ h ∈ s.hold, h.bytes.length = 64) (i : Initiator) (x : Nat) :
    ∀ (k a : Nat) (bytes : List (Option Byte)), bytes.length ≤ k → a + bytes.length ≤ 2 ^ 48 → a ≤ x → x < a + bytes.length →
      overlayByte (overlaysFrom s i k a bytes) x = seenByte s i x := by
  intro k
  induction k with
  | zero => intro a bytes hk _ h1 h2; omega
  | succ k ih =>
    intro a bytes hk hroom h1 h2
    cases bytes with
    | nil => simp at h2; omega
    | cons b bs =>
      generalize hm : 64 - a % 64 = m
      have htake : ((b :: bs).take m).length = min m (b :: bs).length := List.length_take
      have hdrop : ((b :: bs).drop m).length = (b :: bs).length - m := List.length_drop
      have hlen : (b :: bs).length = bs.length + 1 := List.length_cons
      have hsplit : overlaysFrom s i (k + 1) a (b :: bs) =
          (s.pieceOverlay i (BitVec.ofNat 48 a, (b :: bs).take m)).toList ++ overlaysFrom s i k (a + m) ((b :: bs).drop m) := by
        unfold overlaysFrom
        conv_lhs => unfold cutLines
        rw [hm, List.map_cons, List.filterMap_cons]
        cases s.pieceOverlay i (BitVec.ofNat 48 a, (b :: bs).take m) <;> rfl
      have ha : (BitVec.ofNat 48 a).toNat = a := ofNat_toNat (by omega)
      have hx : (BitVec.ofNat 48 x).toNat = x := ofNat_toNat (by omega)
      rw [hsplit]
      by_cases hpast : a + m ≤ x
      · have hrest := ih (a + m) ((b :: bs).drop m) (by omega) (by omega) hpast (by omega)
        cases ho : s.pieceOverlay i (BitVec.ofNat 48 a, (b :: bs).take m) with
        | none => exact hrest
        | some o =>
          refine (overlayByte_cons o _ x).trans ((if_neg ?_).trans hrest)
          rw [pieceOverlay_line ho, lineOf_toNat, ha]
          omega
      · have hline : lineOf (BitVec.ofNat 48 a) = lineOf (BitVec.ofNat 48 x) := by
          rw [lineOf_eq_iff, ha, hx]; omega
        have hlater : overlayByte (overlaysFrom s i k (a + m) ((b :: bs).drop m)) x = none := by
          refine overlayByte_of_later fun o ho => ?_
          have hbytes : ((b :: bs).drop m).length ≠ 0 := by
            intro hnil
            rw [List.length_eq_zero_iff.mp hnil] at ho
            unfold overlaysFrom at ho
            cases k <;> simp [cutLines] at ho
          have := line_of_mem_overlaysFrom k (a + m) _ (by omega) (by omega) o ho
          omega
        unfold seenByte
        rw [journalWindow_of_line s hline.symm, ← hline]
        cases hw : s.journalWindow (BitVec.ofNat 48 a) with
        | none =>
          have ho : s.pieceOverlay i (BitVec.ofNat 48 a, (b :: bs).take m) = none := by
            unfold State.pieceOverlay; simp only [hw]
          rw [ho]
          exact hlater
        | some w =>
          have hcut : ((cutToRange (posOf (BitVec.ofNat 48 a)) ((b :: bs).take m).length
              (s.seenBytes i w (lineOf (BitVec.ofNat 48 a))))[x % 64]?).getD none =
              youngestByte s i w (lineOf (BitVec.ofNat 48 a)) (x % 64) := by
            have hpos : posOf (BitVec.ofNat 48 a) = a % 64 := by unfold posOf; rw [ha]
            rw [cutToRange_getD (seenBytes_length hhold i w _) (by rw [hpos]; omega) (by rw [hpos, htake]; omega)
              (Nat.mod_lt _ (by decide)), seenBytes_getD hhold i w _ (Nat.mod_lt _ (by decide))]
          by_cases hbytes : hasBytes (cutToRange (posOf (BitVec.ofNat 48 a)) ((b :: bs).take m).length
              (s.seenBytes i w (lineOf (BitVec.ofNat 48 a)))) = true
          · have ho : s.pieceOverlay i (BitVec.ofNat 48 a, (b :: bs).take m) = some ⟨lineOf (BitVec.ofNat 48 a), cutToRange
                (posOf (BitVec.ofNat 48 a)) ((b :: bs).take m).length (s.seenBytes i w (lineOf (BitVec.ofNat 48 a)))⟩ := by
              unfold State.pieceOverlay; simp only [hw]; exact if_pos hbytes
            rw [ho]
            refine (overlayByte_cons _ _ x).trans ((if_pos ?_).trans hcut)
            rw [hline, lineOf_toNat, hx]
          · have ho : s.pieceOverlay i (BitVec.ofNat 48 a, (b :: bs).take m) = none := by
              unfold State.pieceOverlay; simp only [hw]; exact if_neg hbytes
            rw [ho]
            refine hlater.trans (Eq.trans ?_ hcut)
            exact (getD_of_not_hasBytes (by simpa using hbytes) _).symm

/-! ### Noninterference (R68) -/

theorem filter_chain_eq {s : State} {other : List HeldSlot} {visible : HeldSlot → Bool} {i : Initiator} {w : WindowIx}
    (hvisible : ∀ h, s.seenBy i w h = true → visible h = true) (heq : s.hold.filter visible = other.filter visible) (line : Addr) :
    (s.chain line).filter (s.seenBy i w) = (other.filter fun h => h.line = line).filter (s.seenBy i w) := by
  have hrestrict (l : List HeldSlot) : (l.filter fun h => h.line = line).filter (s.seenBy i w) =
      ((l.filter visible).filter fun h => h.line = line).filter (s.seenBy i w) := by
    simp only [List.filter_filter]
    refine List.filter_congr fun h _ => ?_
    cases hs : s.seenBy i w h with
    | false => rfl
    | true => simp [hvisible h hs]
  unfold State.chain
  rw [hrestrict s.hold, hrestrict other, heq]

/-- Settles O20: the piece that holds the address gives the youngest seen byte; and only the visible slots are read. -/
theorem overlayGivesYoungestSeenByte : Obligations.OverlayGivesYoungestSeenByte := by
  unfold Obligations.OverlayGivesYoungestSeenByte
  refine ⟨fun s r n x hkind hroom hhold h1 h2 => ?_, fun s r other => ?_⟩
  · have hlen : r.length = n := by simp [UpRequest.length, hkind]
    have hbytes : requestBytes r = List.replicate n none := by simp [requestBytes, hkind]
    have hfrom : s.overlays r = overlaysFrom s r.initiator n r.addr.toNat (List.replicate n none) := by
      unfold State.overlays pieces overlaysFrom
      rw [hlen, hbytes]
    rw [hfrom, overlayByte_overlaysFrom hhold r.initiator x n _ _ (by simp) (by simpa using hroom) h1 (by simpa using h2)]
    unfold seenByte youngestByte
    cases s.journalWindow (BitVec.ofNat 48 x) <;> rfl
  · intro visible heq
    have hvisible (w : WindowIx) (h : HeldSlot) (hs : s.seenBy r.initiator w h = true) : visible h = true := by
      simp only [State.seenBy, Bool.or_eq_true, Bool.and_eq_true, decide_eq_true_eq] at hs
      simp only [visible, Bool.or_eq_true, List.any_eq_true, decide_eq_true_eq]
      exact hs.imp id fun hb => ⟨w, mem_windows w, hb.2⟩
    unfold State.overlays
    congr 1
    funext p
    have hbytes (w : WindowIx) : State.seenBytes { s with hold := other } r.initiator w (lineOf p.1) =
        s.seenBytes r.initiator w (lineOf p.1) := by
      unfold State.seenBytes
      rw [filter_chain_eq (hvisible w) heq]
      rfl
    have hwindow : State.journalWindow { s with hold := other } p.1 = s.journalWindow p.1 := rfl
    unfold State.pieceOverlay
    rw [hwindow]
    cases s.journalWindow p.1 with
    | none => rfl
    | some w => simp only [hbytes]

end Sys2Proof.Proofs.Overlays
end

section
/-! PROOF. The management port: CONTROL, register writes, reads with an effect, and management frames. -/

namespace Sys2Proof.Proofs.Registers
open Sys2Proof Sys2Proof.Machine Sys2Proof.Proofs.Overlays

/-! ### Address fields written by halves (R2, R104, R194) -/

theorem or_of_multiple {a b k : Nat} (hb : b < 2 ^ k) : a * 2 ^ k ||| b = a * 2 ^ k + b := by
  rw [Nat.mul_comm, Nat.two_pow_add_eq_or_of_lt hb]

/-- The low word of an address field, with the bits below the unit stored as zero. -/
theorem withLo_eq (a : Addr) (v : Word32) {k : Nat} (hk : k ≤ 32) :
    withLo a (v &&& BitVec.ofNat 32 (2 ^ 32 - 2 ^ k)) = lowWritten (2 ^ k) a v := by
  have hlow : v.toNat / 2 ^ k * 2 ^ k < 2 ^ 32 := Nat.lt_of_le_of_lt (Nat.div_mul_le_self _ _) v.isLt
  have hhigh : (0xFFFF00000000#48).toNat = 2 ^ 48 - 2 ^ 32 := by decide
  have hmask : (BitVec.ofNat 32 (2 ^ 32 - 2 ^ k)).toNat = 2 ^ 32 - 2 ^ k := by
    rw [BitVec.toNat_ofNat, Nat.mod_eq_of_lt (Nat.sub_lt (Nat.two_pow_pos 32) (Nat.two_pow_pos k))]
  have hsum : a.toNat / 2 ^ 32 * 2 ^ 32 + v.toNat / 2 ^ k * 2 ^ k < 2 ^ 48 := by
    have := a.isLt
    omega
  refine BitVec.eq_of_toNat_eq ?_
  unfold withLo lowWritten
  rw [BitVec.toNat_or, BitVec.toNat_and, BitVec.toNat_setWidth, BitVec.toNat_and, hmask, hhigh,
    and_mask a.isLt (by decide : 32 ≤ 48), and_mask v.isLt hk, BitVec.toNat_ofNat, Nat.mod_eq_of_lt hsum,
    Nat.mod_eq_of_lt (Nat.lt_trans hlow (by decide : 2 ^ 32 < 2 ^ 48)), or_of_multiple hlow]

theorem withLo_line (a : Addr) (v : Word32) : withLo a (v &&& 0xFFFFFFC0#32) = lowWritten 64 a v :=
  withLo_eq a v (k := 6) (by decide)

theorem withLo_word (a : Addr) (v : Word32) : withLo a (v &&& 0xFFFFFFF8#32) = lowWritten 8 a v :=
  withLo_eq a v (k := 3) (by decide)

theorem withLo_page (a : Addr) (v : Word32) : withLo a (v &&& 0xFFFFF000#32) = lowWritten 4096 a v :=
  withLo_eq a v (k := 12) (by decide)

/-- The high bits of an address field, where the word lies in range. -/
theorem withHi_eq (a : Addr) {v : Word32} (hv : v.toNat < 2 ^ 16) :
    withHi a v = BitVec.ofNat 48 (v.toNat * 2 ^ 32 + a.toNat % 2 ^ 32) := by
  have hmask : (0x0000FFFFFFFF#48).toNat = 2 ^ 32 - 1 := by decide
  have hmod : a.toNat % 2 ^ 32 < 2 ^ 32 := Nat.mod_lt _ (by decide)
  have hsum : v.toNat * 2 ^ 32 + a.toNat % 2 ^ 32 < 2 ^ 48 := by omega
  have hshift : (v.setWidth 48 <<< 32).toNat = v.toNat * 2 ^ 32 := by
    have hwide : v.toNat * 2 ^ 32 < 2 ^ 16 * 2 ^ 32 := Nat.mul_lt_mul_of_pos_right hv (Nat.two_pow_pos 32)
    rw [BitVec.toNat_shiftLeft, BitVec.toNat_setWidth_of_le (by decide), Nat.shiftLeft_eq,
      Nat.mod_eq_of_lt (Nat.lt_of_lt_of_le hwide (by decide))]
  refine BitVec.eq_of_toNat_eq ?_
  unfold withHi
  rw [BitVec.toNat_or, BitVec.toNat_and, hshift, hmask, Nat.and_two_pow_sub_one_eq_mod, Nat.or_comm, or_of_multiple hmod,
    BitVec.toNat_ofNat, Nat.mod_eq_of_lt hsum]

theorem withHi_map {α : Type} (a : Addr) (v : Word32) (f : Addr → α) :
    (if hiInRange v then some (f (withHi a v)) else none) = (highWritten a v).map f := by
  unfold hiInRange highWritten
  by_cases hv : v.toNat < 2 ^ 16
  · rw [if_pos (by simpa using hv), if_pos hv, withHi_eq a hv]; rfl
  · rw [if_neg (by simpa using hv), if_neg hv]; rfl

/-! ### CONTROL (R140, R141, R190, R195) -/

/-- Every command that is a CONTROL write is the write of its word (R195). -/
theorem exec_of_controlWord {c : Instr} {v : Word32} (h : controlWord c = some v) (s : State) :
    exec c s = .next (s.controlWrite v) := by
  cases c with
  | registerWrite a w =>
    by_cases ha : a = 0x0004#16
    · subst ha
      cases h
      rfl
    · have hnone : controlWord (.registerWrite a w) = none := if_neg ha
      rw [hnone] at h
      cases h
  | start w => cases h; rfl
  | format w => cases h; rfl
  | warmReset w => cases h; rfl
  | clearOverflow w => cases h; rfl
  | irqEnableSet w => cases h; rfl
  | irqEnableClear w => cases h; rfl
  | _ => cases h

/-- The changes to IRQ_ENABLE and to the overflow flag, which come before a command (R190, R195). -/
theorem controlOverflow_controlIrq (s : State) (v : Word32) : (s.controlIrq v).controlOverflow v = { s with
    settings := { s.settings with
      irqEnable := if v.getLsbD 4 then true else if v.getLsbD 5 then false else s.settings.irqEnable }
    events := { s.events with overflow := if v.getLsbD 3 then false else s.events.overflow } } := by
  unfold State.controlIrq State.controlOverflow
  by_cases h4 : v.getLsbD 4 = true <;> by_cases h5 : v.getLsbD 5 = true <;> by_cases h3 : v.getLsbD 3 = true <;>
    simp only [h3, h4, h5, if_true, if_false, Bool.false_eq_true]

/-- A CONTROL write that fails a check is refused whole (R195). -/
theorem controlWrite_of_refused {s : State} {v : Word32} {st : Status} (h : s.controlStatus v = st) (hst : st ≠ .ok) :
    s.controlWrite v = s.writeReply st := by
  unfold State.controlWrite
  rw [h]
  cases st with
  | ok => exact absurd rfl hst
  | busy => rfl
  | badAddr => rfl

theorem controlWrite_of_ok {s : State} {v : Word32} (h : s.controlStatus v = .ok) :
    s.controlWrite v = (((s.controlIrq v).controlOverflow v).controlCommand v).writeReply .ok := by
  unfold State.controlWrite
  rw [h]

section Status

variable {s : State} {v : Word32} (hboth : ((v.getLsbD 0 && v.getLsbD 2) || (v.getLsbD 4 && v.getLsbD 5)) = false)
include hboth

theorem controlStatus_of_single : s.controlStatus v =
    if (v.getLsbD 0 && s.mode ≠ .init) || (v.getLsbD 2 && (s.mode = .init || s.mode = .recovering)) then .busy
    else if v.getLsbD 0 && s.regionPasses then .badAddr else .ok := by
  unfold State.controlStatus
  rw [hboth]
  rfl

theorem controlStatus_of_busy (h : v.getLsbD 0 = true ∧ s.mode ≠ .init ∨
    v.getLsbD 2 = true ∧ (s.mode = .init ∨ s.mode = .recovering)) : s.controlStatus v = .busy := by
  rw [controlStatus_of_single hboth]
  exact if_pos (by simpa using h)

theorem controlStatus_of_notBusy (h : ¬(v.getLsbD 0 = true ∧ s.mode ≠ .init ∨
    v.getLsbD 2 = true ∧ (s.mode = .init ∨ s.mode = .recovering))) :
    s.controlStatus v = if v.getLsbD 0 && s.regionPasses then .badAddr else .ok := by
  rw [controlStatus_of_single hboth]
  exact if_neg (by simpa using h)

end Status

/-- START in INIT: the mode becomes RECOVERING and anchor selection begins (R140, R150). -/
theorem startRecovery_of_init {s : State} (h : s.mode = .init) (format : Bool) (reply : Option Reply) :
    { s.startRecovery format with reply := reply } =
      { State.push { s with reply := reply } (.modeChange .recovering .init) with
        mode := .recovering
        recovery := ⟨.anchors format none none, [(.read s.settings.journalBase 128, .anchorRead .a),
          (.read (s.settings.journalBase + 128#48) 128, .anchorRead .b)]⟩ } := by
  unfold State.startRecovery State.setMode State.push
  rw [h]
  by_cases hroom : s.events.entries.length < Config.eventDepth
  · simp only [if_pos hroom]; rfl
  · simp only [if_neg hroom]; rfl

/-- Settles O41: the checks of R195 in their order, and what a write that passes them carries out. -/
theorem controlWriteCarriedOutWholeOrRefused : Obligations.ControlWriteCarriedOutWholeOrRefused := by
  unfold Obligations.ControlWriteCarriedOutWholeOrRefused
  intro c v s hword start warm both busy outside refused set
  have hregion : s.regionPasses = true ↔ outside := by
    unfold State.regionPasses
    exact decide_eq_true_iff
  rw [exec_of_controlWord hword]
  refine ⟨fun hboth => ?_, fun hboth hbusy => ?_, fun hboth hnot hstart hout => ?_, fun hboth hstart hwarm => ?_,
    fun hboth hnot hstart hin => ?_⟩ <;> refine congrArg Host.Outcome.next ?_
  · exact controlWrite_of_refused (if_pos hboth) (by decide)
  · exact controlWrite_of_refused (controlStatus_of_busy hboth hbusy) (by decide)
  · refine controlWrite_of_refused ((controlStatus_of_notBusy hboth hnot).trans (if_pos ?_)) (by decide)
    rw [Bool.and_eq_true]
    exact ⟨hstart, hregion.mpr hout⟩
  · have hnot : ¬busy := by simp only [busy, hstart, hwarm, Bool.false_eq_true, false_and, or_self, not_false_eq_true]
    have hfirst : v.getLsbD 0 = false := hstart
    have hthird : v.getLsbD 2 = false := hwarm
    rw [controlWrite_of_ok ((controlStatus_of_notBusy hboth hnot).trans (if_neg (by rw [hfirst]; simp))), controlOverflow_controlIrq]
    unfold State.controlCommand
    rw [hfirst, hthird]
    rfl
  · have hfirst : v.getLsbD 0 = true := hstart
    have hmode : s.mode = .init := by
      by_contra hne
      exact hnot (.inl ⟨hstart, hne⟩)
    rw [controlWrite_of_ok ((controlStatus_of_notBusy hboth hnot).trans (if_neg (by rw [hfirst, Bool.true_and, hregion]; exact hin))),
      controlOverflow_controlIrq]
    unfold State.controlCommand
    rw [hfirst, if_pos rfl]
    exact startRecovery_of_init (s := { set with reply := s.reply }) hmode (v.getLsbD 1) (some ⟨none, some .ok⟩)

/-! ### Register writes (R193, R194) -/

theorem mem_registerMap_of_registerAt {a : BitVec 16} {r : Register} (h : registerAt a = some r) :
    (a.toNat, r) ∈ registerMap := by
  unfold registerAt at h
  obtain ⟨l₁, l₂, hl, -⟩ := List.lookup_eq_some_iff.mp h
  rw [hl]
  simp

/-- What R194 says of a configuration register: its address, whether INIT alone lets it be written, and its range. -/
structure IsSetting (n : Nat) (r : Register) (geometry : Bool) : Prop where
  address : registerMap.lookup n = some r
  writable : r.readOnly = false
  whenInit : r.initOnly = geometry
  notControl : r ≠ .control
  notField : ∀ f, r ≠ .windowField f
  takes : ∀ (g : Settings) (v : Word32), g.write r v = g.written v n

theorem inRange_map {α : Type} (v : Word32) (low high : Nat) (f : Nat → α) :
    (inRange v low high).map f = if low ≤ v.toNat ∧ v.toNat ≤ high then some (f v.toNat) else none := by
  unfold inRange
  by_cases h : low ≤ v.toNat ∧ v.toNat ≤ high
  · rw [if_pos h, if_pos h]; rfl
  · rw [if_neg h, if_neg h]; rfl

/-- The geometry, the epoch and the divider (R193). -/
theorem isSetting_of_geometry {n : Nat} (h : n ∈ [0x80, 0x84, 0x88, 0x8C, 0x90]) : ∃ r, IsSetting n r true := by
  simp only [List.mem_cons, List.not_mem_nil, or_false] at h
  rcases h with rfl | rfl | rfl | rfl | rfl
  · exact ⟨.journalBaseLo, rfl, rfl, rfl, nofun, nofun, fun g v => congrArg some (by rw [withLo_page])⟩
  · exact ⟨.journalBaseHi, rfl, rfl, rfl, nofun, nofun, 
      fun g v => withHi_map (α := Settings) g.journalBase v fun a => { g with journalBase := a }⟩
  · exact ⟨.ringSizeLog2, rfl, rfl, rfl, nofun, nofun, fun g v => inRange_map v _ _ _⟩
  · exact ⟨.journalEpoch, rfl, rfl, rfl, nofun, nofun, fun g v => rfl⟩
  · exact ⟨.timebaseDiv, rfl, rfl, rfl, nofun, nofun, fun g v => inRange_map v _ _ _⟩

/-- The registers that may be written in every mode (R193). -/
theorem isSetting_of_free {n : Nat} (h : n ∈ [0x94, 0x98, 0x9C, 0xA0, 0xA4, 0x100]) : ∃ r, IsSetting n r false := by
  simp only [List.mem_cons, List.not_mem_nil, or_false] at h
  rcases h with rfl | rfl | rfl | rfl | rfl | rfl
  · exact ⟨.anchorInterval, rfl, rfl, rfl, nofun, nofun, fun g v => inRange_map v _ _ _⟩
  · exact ⟨.flushBatch, rfl, rfl, rfl, nofun, nofun, fun g v => inRange_map v _ _ _⟩
  · exact ⟨.stallTimeout, rfl, rfl, rfl, nofun, nofun, fun g v => inRange_map v _ _ _⟩
  · exact ⟨.orphanTimeout, rfl, rfl, rfl, nofun, nofun, fun g v => inRange_map v _ _ _⟩
  · exact ⟨.downstreamTimeout, rfl, rfl, rfl, nofun, nofun, fun g v => inRange_map v _ _ _⟩
  · exact ⟨.windowSelect, rfl, rfl, rfl, nofun, nofun, fun g v => rfl⟩

/-- A WRITE frame to a configuration register has its mode and then its range checked (R193). -/
theorem writeRegister_of_setting (s : State) {a : BitVec 16} {r : Register} {geometry : Bool} (v : Word32)
    (h : IsSetting a.toNat r geometry) : s.writeRegister a v =
      if geometry && s.mode ≠ .init then s.writeReply .busy
      else match s.settings.written v a.toNat with
        | some g =>
          let t := { s with settings := g, ring := s.ring.intervalChanged s.settings.anchorInterval g.anchorInterval }
          (if g.anchorInterval = s.settings.anchorInterval then t else t.startUpdate).writeReply .ok
        | none => s.writeReply .badAddr := by
  have hset : s.writeRegister a v = s.writeSetting r v := by
    have hat : registerAt a = some r := h.address
    unfold State.writeRegister
    rw [hat]
    cases r with
    | control => exact absurd rfl h.notControl
    | windowField f => exact absurd rfl (h.notField f)
    | _ => rfl
  rw [hset]
  unfold State.writeSetting
  rw [h.writable, h.whenInit, h.takes]
  rfl

theorem registerMap_windowField : ∀ i < 13, ∀ f, [WindowRegister.mode, .baseLo, .baseHi, .maskLo, .maskHi, .markerPatternLo,
    .markerPatternHi, .markerMaskLo, .markerMaskHi, .signature, .lengthLimit, .idleTimeout, .policy][i]? = some f →
    registerMap.lookup (0x104 + 4 * i) = some (.windowField f) := by
  intro i hi f hf
  interval_cases i <;> cases hf <;> rfl

/-- Every register but CONTROL, the configuration registers and the window fields is read-only (R194). -/
theorem readOnly_of_otherwise : ∀ p ∈ registerMap, p.1 ∈ [0x80, 0x84, 0x88, 0x8C, 0x90] ∨
    p.1 ∈ [0x94, 0x98, 0x9C, 0xA0, 0xA4, 0x100] ∨ p.1 = 4 ∨ (∃ i, i < 13 ∧ p.1 = 0x104 + 4 * i) ∨ p.2.readOnly = true := by
  decide

/-- Settles O52: the address picks the register, and its row of R194 the checks. -/
theorem registerWriteCheckedThenApplied : Obligations.RegisterWriteCheckedThenApplied := by
  unfold Obligations.RegisterWriteCheckedThenApplied
  intro s a v frame refused geometry free fields
  have hsetting (hmay : geometry ∧ s.mode = .init ∨ free) : ∃ r b, IsSetting a.toNat r b ∧ ¬(b && s.mode ≠ .init) = true := by
    obtain ⟨hgeo, hmode⟩ | hfree := hmay
    · obtain ⟨r, hr⟩ := isSetting_of_geometry hgeo
      exact ⟨r, true, hr, by simp [hmode]⟩
    · obtain ⟨r, hr⟩ := isSetting_of_free hfree
      exact ⟨r, false, hr, by simp⟩
  refine ⟨fun hgeo hmode => ?_, fun hmay hnone => ?_, fun g hmay hsome => ?_, fun i r hi ha => ?_,
    fun hgeo hfree hctl hfield => ?_⟩
  · obtain ⟨r, hr⟩ := isSetting_of_geometry hgeo
    exact congrArg Host.Outcome.next ((writeRegister_of_setting s v hr).trans (if_pos (by simpa using hmode)))
  · obtain ⟨r, b, hr, hfree⟩ := hsetting hmay
    refine congrArg Host.Outcome.next ((writeRegister_of_setting s v hr).trans ((if_neg hfree).trans ?_))
    rw [hnone]
    rfl
  · obtain ⟨r, b, hr, hfree⟩ := hsetting hmay
    refine congrArg Host.Outcome.next ((writeRegister_of_setting s v hr).trans ((if_neg hfree).trans ?_))
    rw [hsome]
    by_cases hsame : g.anchorInterval = s.settings.anchorInterval
    · simp only [if_pos hsame]; rfl
    · simp only [if_neg hsame, State.startUpdate_eq]; rfl
  · have hat : registerAt a = some (.windowField r) := by
      unfold registerAt
      rw [ha]
      refine registerMap_windowField i ?_ r hi
      have := (List.getElem?_eq_some_iff.mp hi).1
      exact this
    show Host.Outcome.next (s.writeRegister a v) = _
    unfold State.writeRegister
    rw [hat]
    rfl
  · show Host.Outcome.next (s.writeRegister a v) = _
    unfold State.writeRegister
    cases hat : registerAt a with
    | none => rfl
    | some r =>
      obtain h | h | h | ⟨i, hi, h⟩ | h := readOnly_of_otherwise _ (mem_registerMap_of_registerAt hat)
      · exact absurd h hgeo
      · exact absurd h hfree
      · exact absurd h hctl
      · exact absurd h (hfield i hi)
      · have hread : s.writeSetting r v = s.writeReply .badAddr := if_pos h
        cases r <;> first | exact congrArg Host.Outcome.next hread | cases h

/-! ### Reads with an effect (R189, R196, R197) -/

theorem lowWord_eq (q : Word64) : (q.setWidth 32 : Word32) = BitVec.ofNat 32 q.toNat := by
  refine BitVec.eq_of_toNat_eq ?_
  rw [BitVec.toNat_setWidth, BitVec.toNat_ofNat]

theorem highWord_eq (q : Word64) : ((q >>> 32).setWidth 32 : Word32) = BitVec.ofNat 32 (q.toNat / 2 ^ 32) := by
  refine BitVec.eq_of_toNat_eq ?_
  rw [BitVec.toNat_setWidth, BitVec.toNat_ushiftRight, BitVec.toNat_ofNat, Nat.shiftRight_eq_div_pow]

theorem kindCode_lt (b : EventBody) : b.kindCode < 2 ^ 8 := by
  cases b <;> simp only [EventBody.kindCode] <;> decide

theorem reason_lt (b : EventBody) : b.reason?.getD 0 < 2 ^ 8 := by
  have hfail (r : FailReason) : r.code < 2 ^ 8 := by cases r <;> decide
  have hmode (m : Mode) : m.code < 2 ^ 8 := by cases m <;> decide
  have hrefused (r : MarkerRefusal) : r.code < 2 ^ 8 := by cases r <;> decide
  have hmalformed (d : MalformedDetail) : d.code < 2 ^ 8 := by cases d <;> decide
  have hport (p : Port) : p.code < 2 ^ 8 := by cases p <;> decide
  have hjournal (d : JournalDetail) : d.code < 2 ^ 8 := by cases d <;> decide
  have hrelease (d : ReleaseDetail) : d.code < 2 ^ 8 := by cases d <;> decide
  have hrecovery (d : RecoveryDetail) : d.code < 2 ^ 8 := by cases d <;> decide
  cases b with
  | txnFailed _ _ _ _ r => exact hfail r
  | txnOrphaned _ _ _ r => exact hfail r
  | markerRefused _ _ _ r => exact hrefused r
  | markerMalformed _ _ d => exact hmalformed d
  | downstreamTimeout _ p => exact hport p
  | journalFault _ d => exact hjournal d
  | releaseFault _ _ _ _ d => exact hrelease d
  | recoveryFault _ d => exact hrecovery d
  | modeChange m => exact hmode m
  | _ => exact Nat.two_pow_pos 8

theorem initiator_lt (b : EventBody) : b.initiator?.getD 0 < 2 ^ 6 := by
  cases b with
  | downstreamTimeout i =>
    cases i with
    | none => exact Nat.two_pow_pos 6
    | some i => exact i.isLt
  | txnDurable _ i => exact i.isLt
  | txnRetired _ i => exact i.isLt
  | txnAborted _ i => exact i.isLt
  | txnFailed _ i => exact i.isLt
  | txnOrphaned _ i => exact i.isLt
  | markerRefused _ i => exact i.isLt
  | markerMalformed i => exact i.isLt
  | requestTimeout i => exact i.isLt
  | releaseFault _ i => exact i.isLt
  | _ => exact Nat.two_pow_pos 6

theorem window_lt (b : EventBody) : b.window?.getD 0 < 2 ^ 3 := by
  cases b with
  | txnDurable _ _ w => exact w.isLt
  | txnRetired _ _ w => exact w.isLt
  | txnAborted _ _ w => exact w.isLt
  | txnFailed _ _ w => exact w.isLt
  | txnOrphaned _ _ w => exact w.isLt
  | markerRefused _ _ w => exact w.isLt
  | markerMalformed _ w => exact w.isLt
  | requestTimeout _ w => exact w.isLt
  | releaseFault _ _ w => exact w.isLt
  | _ => exact Nat.two_pow_pos 3

theorem context_lt (b : EventBody) : b.context?.getD 0 < 2 ^ 7 := by
  have hctx (c : ContextIx) : c.val < 2 ^ 7 := Nat.lt_trans c.isLt (by decide)
  cases b with
  | markerRefused c =>
    cases c with
    | none => exact Nat.two_pow_pos 7
    | some c => exact hctx c
  | txnDurable c => exact hctx c
  | txnRetired c => exact hctx c
  | txnAborted c => exact hctx c
  | txnFailed c => exact hctx c
  | txnOrphaned c => exact hctx c
  | releaseFault c => exact hctx c
  | _ => exact Nat.two_pow_pos 7

/-- The presence bits of word 5 are the seven fields' (R197). -/
theorem presence_spec (b : EventBody) : b.presence < 2 ^ 7 ∧
    [b.context?.isSome, b.initiator?.isSome, b.window?.isSome, b.sequence?.isSome, b.reason?.isSome, b.address?.isSome,
      b.count?.isSome] = (List.range 7).map fun i => b.presence.testBit i := by
  unfold EventBody.presence
  generalize b.context?.isSome = b0
  generalize b.initiator?.isSome = b1
  generalize b.window?.isSome = b2
  generalize b.sequence?.isSome = b3
  generalize b.reason?.isSome = b4
  generalize b.address?.isSome = b5
  generalize b.count?.isSome = b6
  revert b0 b1 b2 b3 b4 b5 b6
  decide

/-- Each word of the event window reads its fields (R197). -/
theorem wordIs_eventWord (e : Event) {i : Nat} (hi : i < 7) : e.wordIs i (eventWord (some e) i).toNat := by
  have haddr : (e.body.address?.getD 0).toNat < 2 ^ 48 := (e.body.address?.getD 0).isLt
  have hseq : (e.body.sequence?.getD 0).toNat < 2 ^ 64 := (e.body.sequence?.getD 0).isLt
  have hof (n : Nat) : (BitVec.ofNat 32 n).toNat = n % 2 ^ 32 := BitVec.toNat_ofNat ..
  match i with
  | 0 =>
    have hkind := kindCode_lt e.body
    have hreason := reason_lt e.body
    have hinitiator := initiator_lt e.body
    have hwindow := window_lt e.body
    have hcontext := context_lt e.body
    simp only [Event.wordIs, eventWord, hof]
    omega
  | 1 => rfl
  | 2 => exact hof _
  | 3 => exact (hof _).trans (Nat.mod_eq_of_lt (by omega))
  | 4 => exact hof _
  | 5 =>
    obtain ⟨hlt, hbits⟩ := presence_spec e.body
    have hword : (eventWord (some e) 5).toNat = (e.body.address?.getD 0).toNat / 2 ^ 32 + 2 ^ 16 * e.body.presence :=
      (hof _).trans (Nat.mod_eq_of_lt (by omega))
    have hhigh : (eventWord (some e) 5).toNat / 2 ^ 16 = e.body.presence := by omega
    refine ⟨by omega, by omega, hbits.trans (List.map_congr_left fun b _ => ?_)⟩
    rw [← hhigh, Nat.testBit_div_two_pow, Nat.add_comm]
  | 6 => exact hof _

/-- Settles O50: the popped event and its word 0, and the captured high word. -/
theorem readFramesWithAnEffect : Obligations.ReadFramesWithAnEffect := by
  unfold Obligations.ReadFramesWithAnEffect
  refine ⟨fun s hnone => ?_, fun s e rest hsome => ?_, fun s => ⟨?_, ?_⟩⟩
  · show Host.Outcome.next s.popEvent = _
    unfold State.popEvent
    rw [hnone]
    rfl
  · refine ⟨eventWord (some e) 0, ?_, wordIs_eventWord e (by decide)⟩
    show Host.Outcome.next s.popEvent = _
    unfold State.popEvent
    rw [hsome]
    rfl
  · show Host.Outcome.next (s.readSequenceLo .nextSequence) = _
    rw [← highWord_eq, ← lowWord_eq]
    rfl
  · show Host.Outcome.next (s.readSequenceLo .durableTailSequence) = _
    rw [← highWord_eq, ← lowWord_eq]
    rfl

/-! ### What a register reads (R194, R196) -/

theorem addrLo_eq (a : Addr) : addrLo a = BitVec.ofNat 32 (a.toNat % 2 ^ 32) := by
  refine BitVec.eq_of_toNat_eq ?_
  unfold addrLo
  rw [BitVec.toNat_setWidth, BitVec.toNat_ofNat, Nat.mod_mod]

theorem addrHi_eq (a : Addr) : addrHi a = BitVec.ofNat 32 (a.toNat / 2 ^ 32) := by
  refine BitVec.eq_of_toNat_eq ?_
  unfold addrHi
  rw [BitVec.toNat_setWidth, BitVec.toNat_ushiftRight, BitVec.toNat_ofNat, Nat.shiftRight_eq_div_pow]

theorem ofNat_toNat_word (v : Word32) : v = BitVec.ofNat 32 v.toNat := by simp

theorem setWidth_eq_ofNat (v : BitVec 16) : (v.setWidth 32 : Word32) = BitVec.ofNat 32 v.toNat := by
  refine BitVec.eq_of_toNat_eq ?_
  rw [BitVec.toNat_setWidth, BitVec.toNat_ofNat]

/-- The ACTIVE entries counted along the table are those counted by number (R66, R194). -/
theorem entriesActive_eq (s : State) :
    s.entriesActive = ((List.finRange 32).filter fun k => (s.trackEntry k).isSome).length := by
  have hlist : s.tracking.toList = (List.finRange 32).map fun k => s.trackEntry k := by
    refine List.ext_getElem (by simp) fun i h1 h2 => ?_
    simp [State.trackEntry]
  unfold State.entriesActive
  rw [hlist, List.filter_map, List.length_map]
  rfl

theorem contextsInUse_eq (s : State) : s.contextsInUse = (Config.contexts.filter fun c => s.ctx c ≠ .free).length := by
  unfold State.contextsInUse
  congr 1
  refine List.filter_congr fun c _ => ?_
  cases s.ctx c <;> rfl

/-- A plain register: one whose READ has no effect and is not of the event window. -/
def ReadsAs (s : State) (m n : Nat) : Prop :=
  ∃ r, registerMap.lookup m = some r ∧ r ≠ .eventPop ∧ (∀ p, r ≠ .sequenceLo p) ∧ s.registerValue r = BitVec.ofNat 32 n

/-- Each status and configuration register reads as its row of R194 says. -/
theorem readsAs_of_reads {s : State} {m n : Nat} (h : s.reads m = some n) : ReadsAs s m n := by
  unfold State.reads at h
  split at h <;> try cases h
  · refine ⟨.mode, rfl, nofun, nofun, ?_⟩
    cases hm : s.mode <;> simp only [State.registerValue, hm] <;> rfl
  · refine ⟨.control, rfl, nofun, nofun, ?_⟩
    cases hm : s.settings.irqEnable <;> simp only [State.registerValue, hm] <;> rfl
  · exact ⟨.eventCount, rfl, nofun, nofun, rfl⟩
  · refine ⟨.occupancy, rfl, nofun, nofun, ?_⟩
    simp only [State.registerValue, contextsInUse_eq, entriesActive_eq]
  · exact ⟨.ringHead, rfl, nofun, nofun, rfl⟩
  · exact ⟨.ringDurableTail, rfl, nofun, nofun, rfl⟩
  · exact ⟨.ringLive, rfl, nofun, nofun, rfl⟩
  · exact ⟨.sequenceHi .nextSequence, rfl, nofun, nofun, ofNat_toNat_word _⟩
  · exact ⟨.sequenceHi .durableTailSequence, rfl, nofun, nofun, ofNat_toNat_word _⟩
  · exact ⟨.journalBaseLo, rfl, nofun, nofun, addrLo_eq _⟩
  · exact ⟨.journalBaseHi, rfl, nofun, nofun, addrHi_eq _⟩
  · exact ⟨.ringSizeLog2, rfl, nofun, nofun, rfl⟩
  · exact ⟨.journalEpoch, rfl, nofun, nofun, ofNat_toNat_word _⟩
  · exact ⟨.timebaseDiv, rfl, nofun, nofun, rfl⟩
  · exact ⟨.anchorInterval, rfl, nofun, nofun, rfl⟩
  · exact ⟨.flushBatch, rfl, nofun, nofun, rfl⟩
  · exact ⟨.stallTimeout, rfl, nofun, nofun, rfl⟩
  · exact ⟨.orphanTimeout, rfl, nofun, nofun, rfl⟩
  · exact ⟨.downstreamTimeout, rfl, nofun, nofun, rfl⟩
  · exact ⟨.windowSelect, rfl, nofun, nofun, rfl⟩

/-- Each window field register reads its field of the selected entry (R196). -/
theorem readsAs_of_windowReads {s : State} {i n : Nat} (h : (s.window s.settings.windowSelect).reads i = some n) :
    ReadsAs s (0x0104 + 4 * i) n := by
  unfold Window.reads at h
  split at h <;> try cases h
  · refine ⟨.windowField .mode, rfl, nofun, nofun, ?_⟩
    unfold State.registerValue windowFieldValue
    cases (s.window s.settings.windowSelect).mode <;> rfl
  · exact ⟨.windowField .baseLo, rfl, nofun, nofun, addrLo_eq _⟩
  · exact ⟨.windowField .baseHi, rfl, nofun, nofun, addrHi_eq _⟩
  · exact ⟨.windowField .maskLo, rfl, nofun, nofun, addrLo_eq _⟩
  · exact ⟨.windowField .maskHi, rfl, nofun, nofun, addrHi_eq _⟩
  · exact ⟨.windowField .markerPatternLo, rfl, nofun, nofun, addrLo_eq _⟩
  · exact ⟨.windowField .markerPatternHi, rfl, nofun, nofun, addrHi_eq _⟩
  · exact ⟨.windowField .markerMaskLo, rfl, nofun, nofun, addrLo_eq _⟩
  · exact ⟨.windowField .markerMaskHi, rfl, nofun, nofun, addrHi_eq _⟩
  · exact ⟨.windowField .signature, rfl, nofun, nofun, setWidth_eq_ofNat _⟩
  · exact ⟨.windowField .lengthLimit, rfl, nofun, nofun, rfl⟩
  · exact ⟨.windowField .idleTimeout, rfl, nofun, nofun, setWidth_eq_ofNat _⟩
  · refine ⟨.windowField .policy, rfl, nofun, nofun, ?_⟩
    unfold State.registerValue windowFieldValue policyValue
    cases (s.window s.settings.windowSelect).fullPolicy <;> cases (s.window s.settings.windowSelect).ackMode <;> rfl

theorem readRegister_of_plain {s : State} {a : BitVec 16} {r : Register} (h : registerAt a = some r) (hpop : r ≠ .eventPop)
    (hlo : ∀ p, r ≠ .sequenceLo p) : s.readRegister a = s.readReply (s.registerValue r) .ok := by
  unfold State.readRegister
  rw [h]
  cases r with
  | eventPop => exact absurd rfl hpop
  | sequenceLo p => exact absurd rfl (hlo p)
  | _ => rfl

theorem readRegister_of_readsAs {s : State} {a : BitVec 16} {n : Nat} (h : ReadsAs s a.toNat n) :
    s.readRegister a = s.readReply (BitVec.ofNat 32 n) .ok := by
  obtain ⟨r, hat, hpop, hlo, hvalue⟩ := h
  rw [readRegister_of_plain hat hpop hlo, hvalue]

theorem registerMap_eventWord : ∀ i : Fin 7, registerMap.lookup (0x0010 + 4 * i.val) = some (.eventWord i) := by decide

theorem reads_isSome_of_mem (s : State) : ∀ n ∈ [0x0000, 0x0004, 0x0008, 0x0040, 0x0044, 0x0048, 0x004C, 0x0054, 0x005C, 0x0080,
    0x0084, 0x0088, 0x008C, 0x0090, 0x0094, 0x0098, 0x009C, 0x00A0, 0x00A4, 0x0100], (s.reads n).isSome = true := by
  simp only [List.forall_mem_cons, List.not_mem_nil, false_imp_iff, implies_true, and_true]
  refine ⟨rfl, rfl, rfl, rfl, rfl, rfl, rfl, rfl, rfl, rfl, rfl, rfl, rfl, rfl, rfl, rfl, rfl, rfl, rfl, rfl⟩

/-- Every register has one of the addresses that the clauses of R194 to R197 name. -/
theorem registerMap_addresses : ∀ p ∈ registerMap, p.1 ∈ [0x0000, 0x0004, 0x0008, 0x0040, 0x0044, 0x0048, 0x004C, 0x0054,
    0x005C, 0x0080, 0x0084, 0x0088, 0x008C, 0x0090, 0x0094, 0x0098, 0x009C, 0x00A0, 0x00A4, 0x0100] ∨ p.1 = 0x000C ∨
    p.1 = 0x0050 ∨ p.1 = 0x0058 ∨ (∃ i, i < 7 ∧ p.1 = 0x0010 + 4 * i) ∨ ∃ i, i < 13 ∧ p.1 = 0x0104 + 4 * i := by
  decide

/-! ### Frames (R192, R193) -/

theorem append_bytes_address (a : BitVec 16) : a.extractLsb' 8 8 ++ a.extractLsb' 0 8 = a := by
  refine BitVec.eq_of_toNat_eq ?_
  rw [BitVec.toNat_append, ← Nat.shiftLeft_add_eq_or_of_lt (BitVec.isLt _)]
  simp only [BitVec.extractLsb'_toNat, Nat.shiftRight_eq_div_pow, Nat.shiftLeft_eq]
  have := a.isLt
  omega

theorem append_bytes_word (v : Word32) :
    v.extractLsb' 24 8 ++ v.extractLsb' 16 8 ++ v.extractLsb' 8 8 ++ v.extractLsb' 0 8 = v := by
  refine BitVec.eq_of_toNat_eq ?_
  simp only [BitVec.toNat_append, ← Nat.shiftLeft_add_eq_or_of_lt (BitVec.isLt _)]
  simp only [BitVec.extractLsb'_toNat, Nat.shiftRight_eq_div_pow, Nat.shiftLeft_eq]
  have := v.isLt
  omega

theorem cutReply_of_whole {s : State} {n : Nat} (h : 8 ≤ n) : s.cutReply n = s := if_neg (Nat.not_lt.mpr h)

theorem cutReply_of_cut {s : State} {n : Nat} (h : n < 8) :
    s.cutReply n = { s with reply := s.reply.map fun r => { r with status := none } } := if_pos h

/-- A READ frame is taken with its third byte (R192). -/
theorem frame_read (s : State) (a : BitVec 16) (rest : List Byte) :
    s.frame (0x0B#8 :: a.extractLsb' 8 8 :: a.extractLsb' 0 8 :: rest) = (s.readRegister a).cutReply (rest.length + 3) := by
  have ha := append_bytes_address a
  show (s.readRegister (a.extractLsb' 8 8 ++ a.extractLsb' 0 8)).cutReply (rest.length + 3) = _
  rw [ha]

/-- A WRITE frame is taken with its seventh byte (R192). -/
theorem frame_write (s : State) (a : BitVec 16) (v : Word32) (rest : List Byte) :
    s.frame (0x02#8 :: a.extractLsb' 8 8 :: a.extractLsb' 0 8 :: v.extractLsb' 24 8 :: v.extractLsb' 16 8 :: v.extractLsb' 8 8 ::
      v.extractLsb' 0 8 :: rest) = (s.writeRegister a v).cutReply (rest.length + 7) := by
  have ha := append_bytes_address a
  have hv := append_bytes_word v
  show (s.writeRegister (a.extractLsb' 8 8 ++ a.extractLsb' 0 8)
    (v.extractLsb' 24 8 ++ v.extractLsb' 16 8 ++ v.extractLsb' 8 8 ++ v.extractLsb' 0 8)).cutReply (rest.length + 7) = _
  rw [ha, hv]

/-- A frame with another command byte touches no register (R192). -/
theorem frame_other (s : State) {command : Byte} (hr : command ≠ 0x0B#8) (hw : command ≠ 0x02#8) (hi lo : Byte)
    (rest : List Byte) : s.frame (command :: hi :: lo :: rest) = (s.readReply 0 .badAddr).cutReply (rest.length + 3) := by
  unfold State.frame
  exact (if_neg hr).trans (if_neg hw)

/-- A WRITE frame cut short before its seventh byte has no effect (R192). -/
theorem frame_write_cut (s : State) (hi lo : Byte) {rest : List Byte} (h : rest.length < 4) :
    s.frame (0x02#8 :: hi :: lo :: rest) = s.noReply := by
  match rest with
  | [] => rfl
  | [_] => rfl
  | [_, _] => rfl
  | [_, _, _] => rfl
  | _ :: _ :: _ :: _ :: _ => simp only [List.length_cons] at h; omega

/-- A frame cut short before its address is complete has no effect (R192). -/
theorem frame_short (s : State) {f : List Byte} (h : f.length < 3) : s.frame f = s.noReply := by
  match f with
  | [] => rfl
  | [_] => rfl
  | [_, _] => rfl
  | _ :: _ :: _ :: _ => simp only [List.length_cons] at h; omega

/-- A whole READ frame (R192). -/
theorem exec_readFrame (s : State) (a : BitVec 16) (data : Word32) (tail : List Byte) :
    exec (.badCommandFrame (frameOf 0x0B a data ++ tail)) s = .next (s.readRegister a) :=
  congrArg Host.Outcome.next ((frame_read s a _).trans (cutReply_of_whole (by simp)))

theorem readRegister_eventWord {s : State} {a : BitVec 16} {i : Nat} (hi : i < 7) (ha : a.toNat = 0x0010 + 4 * i) :
    s.readRegister a = s.readReply (eventWord s.events.window i) .ok := by
  have hat : registerAt a = some (.eventWord ⟨i, hi⟩) := by
    unfold registerAt
    rw [ha]
    exact registerMap_eventWord ⟨i, hi⟩
  exact readRegister_of_plain hat nofun nofun

/-- An address that none of the clauses names is no register's (R193). -/
theorem registerAt_eq_none {s : State} {a : BitVec 16} (h : s.reads a.toNat = none) (hpop : a ≠ 0x000C#16)
    (hnext : a ≠ 0x0050#16) (htail : a ≠ 0x0058#16) (hword : ∀ i, i < 7 → a.toNat ≠ 0x0010 + 4 * i)
    (hfield : ∀ i, i < 13 → a.toNat ≠ 0x0104 + 4 * i) : registerAt a = none := by
  have hne {b : BitVec 16} (hb : a ≠ b) : a.toNat ≠ b.toNat := fun he => hb (BitVec.eq_of_toNat_eq he)
  by_contra hsome
  obtain ⟨r, hr⟩ := Option.ne_none_iff_exists'.mp hsome
  obtain hm | hm | hm | hm | ⟨i, hi, hm⟩ | ⟨i, hi, hm⟩ := registerMap_addresses _ (mem_registerMap_of_registerAt hr)
  · have := reads_isSome_of_mem s _ hm
    rw [h] at this
    cases this
  · exact hne hpop hm
  · exact hne hnext hm
  · exact hne htail hm
  · exact hword i hi hm
  · exact hfield i hi hm

/-- Cutting a frame after it was taken leaves its effect and takes away the status (R192). -/
theorem frame_take (s : State) (command : Byte) (a : BitVec 16) (data : Word32) {n : Nat}
    (hn : (if command = 0x02#8 then 7 else 3) ≤ n) (h8 : n < 8) :
    s.frame ((frameOf command a data).take n) =
      { s.frame (frameOf command a data) with
        reply := (s.frame (frameOf command a data)).reply.map fun x => { x with status := none } } := by
  obtain ⟨rest, hrest, hlen⟩ : ∃ rest, (frameOf command a data).take n =
      command :: a.extractLsb' 8 8 :: a.extractLsb' 0 8 :: rest ∧ rest.length = n - 3 := by
    have h3 : 3 ≤ n := by split at hn <;> omega
    obtain ⟨m, rfl⟩ := Nat.exists_eq_add_of_le' h3
    exact ⟨_, rfl, by simp; omega⟩
  have hcut : rest.length + 3 < 8 := by omega
  by_cases hw : command = 0x02#8
  · subst hw
    have h7 : n = 7 := by rw [if_pos rfl] at hn; omega
    subst h7
    rw [show s.frame ((frameOf 0x02#8 a data).take 7) = _ from frame_write s a data [],
      show s.frame (frameOf 0x02#8 a data) = _ from frame_write s a data [0]]
    exact cutReply_of_cut (by decide)
  · by_cases hr : command = 0x0B#8
    · subst hr
      rw [hrest, frame_read, cutReply_of_cut hcut, show s.frame (frameOf 0x0B#8 a data) = _ from frame_read s a _,
        cutReply_of_whole (by simp)]
    · rw [hrest, frame_other s hr hw, cutReply_of_cut hcut,
        show s.frame (frameOf command a data) = _ from frame_other s hr hw _ _ _, cutReply_of_whole (by simp)]

/-- What stands on MISO: seven bytes before the status, then zero (R192). -/
theorem shifted_of_whole (x : Option Word32) (status : Status) (n : Nat) : Reply.shifted ⟨x, some status⟩ (8 + n) =
    List.replicate 3 none ++ ((x.map fun v => (wordBytes v).map some).getD (List.replicate 4 none)) ++
      [some status.code] ++ List.replicate n (some 0) := by
  have hn : 8 + n - 8 = n := by omega
  have hfour : ((x.map fun v => (wordBytes v).map some).getD (List.replicate 4 none)).length = 4 := by
    cases x <;> rfl
  unfold Reply.shifted
  rw [hn]
  refine List.take_of_length_le ?_
  simp only [List.length_append, List.length_replicate, List.length_singleton, hfour, Option.map_some]
  omega

/-- Settles O51: a frame is its register's READ or WRITE, as far as it was taken. -/
theorem framesReadAndWriteRegisters : Obligations.FramesReadAndWriteRegisters := by
  unfold Obligations.FramesReadAndWriteRegisters
  refine ⟨fun s a data tail => ?_, fun s command a data n => ?_, fun v status code n hcode => ?_⟩
  · intro read shows
    have hread : read = .next (s.readRegister a) := exec_readFrame s a data tail
    have hplain {m n : Nat} (ha : a.toNat = m) (h : ReadsAs s m n) : read = shows (BitVec.ofNat 32 n) .ok := by
      rw [hread, readRegister_of_readsAs (ha ▸ h)]
      rfl
    refine ⟨fun ha => ?_, fun ha => ?_, fun ha => ?_, fun n hn => hplain rfl (readsAs_of_reads hn),
      fun i n ha hn => hplain ha (readsAs_of_windowReads hn), fun i hi ha => ?_, fun hn hpop hnext htail hword hfield => ?_, ?_,
      fun command hr hw => ?_⟩
    · subst ha; exact hread
    · subst ha; exact hread
    · subst ha; exact hread
    · rw [hread, readRegister_eventWord hi ha]
      refine ⟨fun hnone => by rw [hnone]; rfl, fun e he => ⟨eventWord (some e) i, by rw [he]; rfl, wordIs_eventWord e hi⟩⟩
    · rw [hread]
      unfold State.readRegister
      rw [registerAt_eq_none hn hpop hnext htail hword hfield]
      rfl
    · exact congrArg Host.Outcome.next ((frame_write s a data _).trans (cutReply_of_whole (by simp)))
    · exact congrArg Host.Outcome.next ((frame_other s hr hw _ _ _).trans (cutReply_of_whole (by simp)))
  · intro cut taken
    refine ⟨fun hn => congrArg Host.Outcome.next ?_, fun t hn h8 ht => ?_⟩
    · by_cases h3 : n < 3
      · exact frame_short s (Nat.lt_of_le_of_lt (List.length_take_le _ _) h3)
      · by_cases hw : command = 0x02#8
        · subst hw
          obtain ⟨m, rfl⟩ := Nat.exists_eq_add_of_le' (Nat.le_of_not_lt h3)
          have h7 : m + 3 < 7 := hn
          exact frame_write_cut s _ _ (Nat.lt_of_le_of_lt (List.length_take_le _ _) (by omega))
        · simp only [taken, if_neg hw] at hn
          omega
    · have hwhole : s.frame (frameOf command a data) = t := Host.Outcome.next.inj ht
      refine congrArg Host.Outcome.next ((frame_take s command a data hn h8).trans ?_)
      rw [hwhole]
  · have hstatus : status.code = code := by
      obtain ⟨rfl, rfl⟩ | ⟨rfl, rfl⟩ | ⟨rfl, rfl⟩ := hcode <;> rfl
    rw [shifted_of_whole, shifted_of_whole, hstatus]
    exact ⟨rfl, rfl⟩

end Sys2Proof.Proofs.Registers
end

section
/-! PROOF. The journal writer: taking the head of the commit queue, durability, and the journal fault. -/

namespace Sys2Proof.Proofs.JournalWriter
open Sys2Proof Sys2Proof.Machine Sys2Proof.Proofs.RecoveryEnd Sys2Proof.Proofs.Answers

/-! ### Taking the head (R83, R84, R108) -/

/-- Conditions 1 to 4 of R83. -/
theorem mayTakeHead_iff (s : State) : s.mayTakeHead = true ↔ s.writer.active = true ∧ (s.mode = .online ∨ s.mode = .draining) ∧
    s.writer.commitQueue ≠ [] ∧ s.writer.openBatch.length < s.settings.flushBatch := by
  simp only [State.mayTakeHead, Bool.and_eq_true, Mode.carriesCommits_iff, decide_eq_true_eq, and_assoc]

theorem writesAt_ne_nil (a : Addr) {bytes : List Byte} (h : bytes ≠ []) : writesAt a bytes ≠ [] := by
  obtain ⟨b, bs, rfl⟩ := List.exists_cons_of_ne_nil h
  unfold writesAt
  exact fun hnil => List.cons_ne_nil _ _ (List.map_eq_nil_iff.mp hnil)

theorem recordBytes_ne_nil (epoch : Word32) (o : Owner) (f : Bool) (m : CommitMarker) (q : Word64) (slots : List HeldSlot) :
    recordBytes epoch o f m q slots ≠ [] := by
  refine List.ne_nil_of_length_pos ?_
  unfold recordBytes
  simp only [List.length_append, recordHeader_length]
  omega

/-- The writes of a record are never none (R91). -/
theorem recordWrites_ne_nil (s : State) (c : ContextIx) (o : Owner) (f : Bool) (m : CommitMarker) (g : Grant) :
    s.recordWrites c o f m g ≠ [] := by
  unfold State.recordWrites
  exact List.append_ne_nil_of_right_ne_nil _ (writesAt_ne_nil _ (recordBytes_ne_nil _ _ _ _ _ _))

/-- A head just taken has writes to issue, so its batch is not flushed yet (R93). -/
theorem flushDue_takeGranted (s : State) (c : ContextIx) (o : Owner) (f : Bool) (m : CommitMarker) (p : Option Requester)
    (g : Grant) : ¬(s.takeGranted c o f m p g).flushDue = true := by
  intro h
  obtain ⟨-, -, hall, -⟩ := (flushDue_iff _).mp h
  have hlast : (⟨c, s.recordWrites c o f m g, 0⟩ : BatchRecord) ∈ (s.takeGranted c o f m p g).writer.openBatch :=
    List.mem_append_right _ (List.mem_singleton_self _)
  exact recordWrites_ne_nil s c o f m g (hall _ hlast).1

/-- A granted reservation takes the head, and where the space request was set the ring manager checks its start conditions (R84,
R112). -/
theorem askForSpace_of_granted {s : State} {c : ContextIx} {rest : List ContextIx} {o : Owner} {f : Bool} {m : CommitMarker}
    {p : Option Requester} {g : Grant} (renew : Bool) (hqueue : s.writer.commitQueue = c :: rest)
    (hctx : s.ctx c = .queued o f m p) (hg : s.ring.grant s.ringSize (recordLength (s.entryCount c)) = some g) :
    s.askForSpace renew =
      if s.ring.spaceRequest then (s.takeGranted c o f m p g).startUpdate else s.takeGranted c o f m p g := by
  have hnot := flushDue_takeGranted s c o f m p g
  unfold State.askForSpace
  simp only [hqueue, hctx, hg]
  by_cases hspace : s.ring.spaceRequest = true
  · rw [if_pos hspace, State.startUpdate_checkFlush, checkFlush_of_not hnot]
  · rw [if_neg hspace, checkFlush_of_not hnot]

/-- A refused reservation of a writer that asks sets the space request, and the two checks are made (R93, R108, R112). -/
theorem askForSpace_of_refused {s : State} {c : ContextIx} {rest : List ContextIx} {o : Owner} {f : Bool} {m : CommitMarker}
    {p : Option Requester} {renew : Bool} (hqueue : s.writer.commitQueue = c :: rest) (hctx : s.ctx c = .queued o f m p)
    (hg : s.ring.grant s.ringSize (recordLength (s.entryCount c)) = none)
    (hask : ¬(s.ring.spaceRequest && !renew) = true) :
    s.askForSpace renew = (State.startUpdate { s with ring := s.ring.refuseSpace }).checkFlush := by
  unfold State.askForSpace
  simp only [hqueue, hctx, hg]
  exact if_neg hask

/-- A writer that waits for space, and is not told of freed space, goes on waiting (R108). -/
theorem askForSpace_of_waiting {s : State} {c : ContextIx} {rest : List ContextIx} {o : Owner} {f : Bool} {m : CommitMarker}
    {p : Option Requester} {renew : Bool} (hqueue : s.writer.commitQueue = c :: rest) (hctx : s.ctx c = .queued o f m p)
    (hg : s.ring.grant s.ringSize (recordLength (s.entryCount c)) = none) (hwait : (s.ring.spaceRequest && !renew) = true) :
    s.askForSpace renew = s := by
  unfold State.askForSpace
  simp only [hqueue, hctx, hg]
  exact if_pos hwait

/-- The reservation decided (R108). -/
theorem grant_of_fits {g : Ring} {size n : Nat} (h : g.head + n ≤ size) (hfree : n ≤ size - g.live) :
    g.grant size n = some ⟨g.head, none⟩ := (if_pos h).trans (if_pos hfree)

theorem grant_of_pads {g : Ring} {size n : Nat} (h : size < g.head + n) (hfree : size - g.head + n ≤ size - g.live) :
    g.grant size n = some ⟨0, some ⟨g.head, size - g.head⟩⟩ := (if_neg (Nat.not_le.mpr h)).trans (if_pos hfree)

theorem grant_of_neither {g : Ring} {size n : Nat} (h : g.head + n ≤ size ∧ size - g.live < n ∨
    size < g.head + n ∧ size - g.live < size - g.head + n) : g.grant size n = none := by
  obtain ⟨hfits, hfull⟩ | ⟨hends, hfull⟩ := h
  · exact (if_pos hfits).trans (if_neg (Nat.not_le.mpr hfull))
  · exact (if_neg (Nat.not_le.mpr hends)).trans (if_neg (Nat.not_le.mpr hfull))

/-- Settles O27: the reservation's three answers, and the check of R93 where the head may not be taken. -/
theorem commitHeadReservesAndJoinsBatch : Obligations.CommitHeadReservesAndJoinsBatch := by
  unfold Obligations.CommitHeadReservesAndJoinsBatch
  refine ⟨fun s => ?_, fun s c rest o f m p hactive hmode hqueue hroom hctx => ?_⟩
  · intro due hnot
    have hhead : s.takeHead = s.checkFlush := if_neg (mt (mayTakeHead_iff s).mp hnot)
    exact ⟨fun h => congrArg Host.Outcome.next (hhead.trans (checkFlush_of_due ((flushDue_iff s).mpr h))),
      fun h => congrArg Host.Outcome.next (hhead.trans (checkFlush_of_not (mt (flushDue_iff s).mp h)))⟩
  · intro n size pad q taken refused
    have hhead : s.takeHead = s.askForSpace false :=
      if_pos ((mayTakeHead_iff s).mpr ⟨hactive, hmode, by rw [hqueue]; exact List.cons_ne_nil _ _, hroom⟩)
    refine ⟨fun hfits hfree => congrArg Host.Outcome.next (hhead.trans ?_),
      fun hends hfree hshort => congrArg Host.Outcome.next (hhead.trans ?_), fun hneither => ⟨fun hspace => ?_, fun hspace => ?_⟩⟩
    · rw [askForSpace_of_granted false hqueue hctx (grant_of_fits hfits hfree), State.startUpdate_eq]
      unfold State.takeGranted
      simp only [hqueue, List.tail_cons]
      by_cases hspace : s.ring.spaceRequest = true
      · simp only [taken, if_pos hspace]; rfl
      · simp only [taken, if_neg hspace]; rfl
    · rw [askForSpace_of_granted false hqueue hctx (grant_of_pads hends hfree), State.startUpdate_eq]
      have hwrap : wrapOffset size 0 n = n := by unfold wrapOffset; rw [if_neg (by omega), Nat.zero_add]
      have hreserve : s.ring.reserve size n ⟨0, some ⟨s.ring.head, pad⟩⟩ =
          { (if s.ring.retiredSequence = q then
              { s.ring with
                head := n, live := s.ring.live + pad + n, retiredOffset := 0, unanchored := s.ring.unanchored + pad
                pendingPad := none }
            else { s.ring with head := n, live := s.ring.live + pad + n, pendingPad := some ⟨s.ring.head, pad⟩ }) with
            nextSequence := q + 1, spaceRequest := false } := by
        unfold Ring.reserve
        simp only [hwrap, Nat.add_assoc]
        by_cases hret : s.ring.retiredSequence = q
        · rw [if_pos hret, if_pos hret]
        · rw [if_neg hret, if_neg hret]
      unfold State.takeGranted
      by_cases hspace : s.ring.spaceRequest = true
      · simp only [taken, if_pos hspace, ← hreserve, hqueue, List.tail_cons]; rfl
      · simp only [taken, if_neg hspace, ← hreserve, hqueue, List.tail_cons]; rfl
    · refine congrArg Host.Outcome.next (hhead.trans ?_)
      exact askForSpace_of_waiting hqueue hctx (grant_of_neither hneither) (by rw [hspace]; rfl)
    · intro flush
      have hask := askForSpace_of_refused (renew := false) hqueue hctx (grant_of_neither hneither) (by rw [hspace]; simp)
      have hrefused : State.startUpdate { s with ring := s.ring.refuseSpace } = { s with ring := refused } := State.startUpdate_eq _
      have hrequest : refused.spaceRequest = true := by
        simp only [refused, Ring.startChecked]; split <;> rfl
      have hdue : State.flushDue { s with ring := refused } = true ↔ flush :=
        (flushDue_iff _).trans ⟨fun ⟨_, hne, hall, hflight, _⟩ => ⟨hne, hflight, hall⟩,
          fun ⟨hne, hflight, hall⟩ => ⟨hactive, hne, hall, hflight, .inr (.inr (.inl hrequest))⟩⟩
      rw [hrefused] at hask
      exact ⟨fun h => congrArg Host.Outcome.next (hhead.trans (hask.trans (checkFlush_of_due (hdue.mpr h)))),
        fun h => congrArg Host.Outcome.next (hhead.trans (hask.trans (checkFlush_of_not (mt hdue.mp h))))⟩

/-! ### Durability (R35, R94) -/

/-- A WRITING context whose record is flushed (R94). -/
def durableOf : Context → Context
  | .writing o f m pl _ => .durable o f m pl
  | c => c

/-- The TXN_DURABLE event of a WRITING context, where its window enables it (R94). -/
def durableEvent (s : State) (c : ContextIx) : Option EventBody :=
  match s.ctx c with
  | .writing o _ _ pl _ =>
    if (s.window o.window).durableEvent then some (.txnDurable c o.initiator o.window pl.sequence (s.entryCount c)) else none
  | _ => none

/-- The answer of a pending COMMIT whose record is flushed (R35). -/
def durableAnswer (s : State) (c : ContextIx) : Option Answer :=
  (s.ctx c).pending?.map fun p => ⟨p, .ok []⟩

/-- One context made DURABLE, in full (R94). -/
theorem makeDurable_eq {s : State} {c : ContextIx} {o : Owner} {f : Bool} {m : CommitMarker} {pl : RecordPlace}
    {p : Option Requester} (h : s.ctx c = .writing o f m pl p) : s.makeDurable c = { s with
      contexts := s.contexts.set c (.durable o f m pl)
      release := { s.release with queue := s.release.queue ++ [c] }
      upOut := s.upOut ++ (durableAnswer s c).toList
      events := (s.pushAll (durableEvent s c).toList).events } := by
  unfold State.makeDurable durableAnswer durableEvent
  simp only [h, Context.pending?, State.pushIf]
  by_cases hevent : (s.window o.window).durableEvent = true
  · simp only [if_pos hevent]
    cases p with
    | none =>
      have hout : s.upOut ++ [] = s.upOut := List.append_nil _
      simp only [Option.map_none, Option.toList_none, hout]
      exact push_eq_of_events _ rfl rfl
    | some p => exact push_eq_of_events _ rfl rfl
  · simp only [if_neg hevent]
    cases p with
    | none =>
      have hout : s.upOut ++ [] = s.upOut := List.append_nil _
      simp only [Option.map_none, Option.toList_none, hout]
      rfl
    | some p => rfl

/-- The contexts of a flushed batch made DURABLE in their order (R94). -/
theorem foldl_makeDurable_eq : ∀ (l : List ContextIx) (s : State), l.Nodup → (∀ c ∈ l, (s.ctx c).isWriting = true) →
    ∃ v : Vector Context 16, (∀ x : ContextIx, v[x] = if x ∈ l then durableOf (s.ctx x) else s.ctx x) ∧
      l.foldl State.makeDurable s = { s with
        contexts := v
        release := { s.release with queue := s.release.queue ++ l }
        upOut := s.upOut ++ l.filterMap (durableAnswer s)
        events := (s.pushAll (l.filterMap (durableEvent s))).events } := by
  intro l
  induction l with
  | nil =>
    intro s _ _
    exact ⟨s.contexts, fun x => by simp; rfl, by simp [State.pushAll]⟩
  | cons c l ih =>
    intro s hnodup hall
    obtain ⟨hc, hl⟩ := List.nodup_cons.mp hnodup
    obtain ⟨o, f, m, pl, p, hctx⟩ : ∃ o f m pl p, s.ctx c = .writing o f m pl p := by
      have hw := hall c (List.mem_cons_self ..)
      cases hx : s.ctx c <;> rw [hx] at hw <;> first | exact ⟨_, _, _, _, _, rfl⟩ | cases hw
    have hstep := makeDurable_eq hctx
    generalize hu : s.makeDurable c = u at hstep
    have hsame (x : ContextIx) (hx : x ≠ c) : u.ctx x = s.ctx x := by
      subst hstep
      exact (s.setCtx_ctx c x _).trans (if_neg (Ne.symm hx))
    have hself : u.ctx c = .durable o f m pl := by
      subst hstep
      exact s.setCtx_ctx_self c _
    have hne (d : ContextIx) (hd : d ∈ l) : d ≠ c := fun he => hc (he ▸ hd)
    obtain ⟨v, hv, hfold⟩ := ih u hl fun d hd => by
      rw [hsame d (hne d hd)]; exact hall d (List.mem_cons_of_mem _ hd)
    have hanswers : l.filterMap (durableAnswer u) = l.filterMap (durableAnswer s) :=
      List.filterMap_congr fun d hd => by unfold durableAnswer; rw [hsame d (hne d hd)]
    have hevents : l.filterMap (durableEvent u) = l.filterMap (durableEvent s) :=
      List.filterMap_congr fun d hd => by
        unfold durableEvent
        rw [hsame d (hne d hd)]
        subst hstep
        rfl
    refine ⟨v, fun x => ?_, ?_⟩
    · rw [hv x]
      by_cases hx : x = c
      · subst hx
        rw [if_neg hc, if_pos (List.mem_cons_self ..), hself, hctx]
        rfl
      · simp only [List.mem_cons, hx, false_or, hsame x hx]
    · have hpushed : (u.pushAll (l.filterMap (durableEvent s))).events =
          (s.pushAll ((c :: l).filterMap (durableEvent s))).events := by
        have hfirst : (c :: l).filterMap (durableEvent s) = (durableEvent s c).toList ++ l.filterMap (durableEvent s) := by
          rw [List.filterMap_cons]; cases durableEvent s c <;> rfl
        rw [hfirst]
        unfold State.pushAll
        rw [List.foldl_append]
        refine pushAll_events_congr _ ?_ ?_
        · subst hstep; rfl
        · subst hstep
          rw [show List.foldl State.push s (durableEvent s c).toList = _ from pushAll_eq_of_events (s := s) _ rfl rfl]
      have hout : u.upOut ++ l.filterMap (durableAnswer s) = s.upOut ++ (c :: l).filterMap (durableAnswer s) := by
        subst hstep
        rw [List.filterMap_cons]
        cases durableAnswer s c <;> simp
      have hqueue : { u.release with queue := u.release.queue ++ l } =
          { s.release with queue := s.release.queue ++ c :: l } := by
        subst hstep
        simp
      rw [List.foldl_cons, hu, hfold, hanswers, hevents, hpushed, hout, hqueue]
      subst hstep
      rfl

/-- Settles O29: the contexts of the flight in their order, and then the check of R93. -/
theorem recordFlushMakesContextsDurable : Obligations.RecordFlushMakesContextsDurable := by
  unfold Obligations.RecordFlushMakesContextsDurable
  intro s tag e flight data hentry href hkind hactive hflight hnodup hwriting due
  have hexec := exec_responseCommand (r := .ack data) hentry (by simp [hkind])
  unfold State.deliver at hexec
  rw [href] at hexec
  obtain ⟨v, hv, hfold⟩ := foldl_makeDurable_eq flight.contexts (s.removeEntry tag) hnodup hwriting
  have hctx (x : ContextIx) : v[x] = if x ∈ flight.contexts then durableOf (s.ctx x) else s.ctx x := hv x
  have hanswer : (s.removeEntry tag).recordFlushAnswer (.ack data) = State.checkFlush
      { s with
        contexts := v
        release := { s.release with queue := s.release.queue ++ flight.contexts }
        upOut := s.upOut ++ flight.contexts.filterMap (durableAnswer s)
        events := (s.pushAll (flight.contexts.filterMap (durableEvent s))).events
        writer := { s.writer with flight := none }
        downstream := { s.downstream with outstanding := s.downstream.outstanding.filter fun d => d.tag ≠ tag } } := by
    unfold State.recordFlushAnswer
    rw [if_pos (by exact hactive), State.removeEntry_writer, hflight]
    refine congrArg State.checkFlush ?_
    have hevents : ((s.removeEntry tag).pushAll (flight.contexts.filterMap (durableEvent (s.removeEntry tag)))).events =
        (s.pushAll (flight.contexts.filterMap (durableEvent s))).events := pushAll_events_congr _ rfl rfl
    simp only [hfold, hevents]
    rfl
  generalize hmade : ({ s with
        contexts := v
        release := { s.release with queue := s.release.queue ++ flight.contexts }
        upOut := s.upOut ++ flight.contexts.filterMap (durableAnswer s)
        events := (s.pushAll (flight.contexts.filterMap (durableEvent s))).events
        writer := { s.writer with flight := none }
        downstream := { s.downstream with outstanding := s.downstream.outstanding.filter fun d => d.tag ≠ tag } } : State) = made
    at hanswer
  have hdue : made.flushDue = true ↔ due := by
    subst hmade
    exact (flushDue_iff _).trans ⟨fun ⟨_, hne, hall, _, hstuck⟩ => ⟨hne, hall, hstuck⟩,
      fun ⟨hne, hall, hstuck⟩ => ⟨hactive, hne, hall, rfl, hstuck⟩⟩
  obtain ⟨w, hflush, hyes, hno⟩ : ∃ w, made.checkFlush = { made with writer := w } ∧
      (due → w = { s.writer with
        openBatch := [], flight := some ⟨s.writer.openBatch.map BatchRecord.context, true⟩ }) ∧
      (¬due → w = { s.writer with flight := none }) := by
    by_cases hd : due
    · exact ⟨_, checkFlush_of_due (hdue.mpr hd), fun _ => by subst hmade; rfl, fun hnot => absurd hd hnot⟩
    · exact ⟨_, checkFlush_of_not (mt hdue.mp hd), fun hyes => absurd hyes hd, fun _ => by subst hmade; rfl⟩
  refine ⟨_, hexec.trans (congrArg Host.Outcome.next (hanswer.trans hflush)), ?_⟩
  subst hmade
  refine ⟨fun c hc o f m pl p hx => ?_, fun c hc => ?_, rfl, rfl, rfl, hyes, hno, rfl⟩
  · exact (hctx c).trans ((if_pos hc).trans (by rw [hx]; rfl))
  · exact (hctx c).trans (if_neg hc)

end Sys2Proof.Proofs.JournalWriter
end

section
/-! PROOF. The faults of the journal writer, the ring manager, the release engine and recovery, and the power-fail warning: the
state each leaves, whole. -/

namespace Sys2Proof.Proofs.Faults
open Sys2Proof Sys2Proof.Machine Sys2Proof.Proofs.RecoveryEnd Sys2Proof.Proofs.Answers

/-! ### Events pushed one list after another -/

theorem pushAll_pushAll (s : State) (as bs : List EventBody) : (s.pushAll as).pushAll bs = s.pushAll (as ++ bs) :=
  List.foldl_append.symm

theorem pushAll_eq (s : State) (bs : List EventBody) : s.pushAll bs = { s with events := (s.pushAll bs).events } :=
  pushAll_eq_of_events bs rfl rfl

theorem push_eq_pushAll (s : State) (b : EventBody) : s.push b = s.pushAll [b] := rfl

/-- Events pushed in a state whose queue already holds the outcome of a list of pushes follow that list. -/
theorem pushAll_events_append {s t : State} {as : List EventBody} (bs : List EventBody) (he : t.events = (s.pushAll as).events)
    (ht : t.timebase = s.timebase) : (t.pushAll bs).events = (s.pushAll (as ++ bs)).events := by
  rw [← pushAll_pushAll]
  refine pushAll_events_congr bs he (ht.trans ?_)
  rw [pushAll_eq s as]

/-! ### The head under failures (R52, R55, R144) -/

theorem endedBy_mode (w : HeadWait) : HeadWait.endedBy false (fun _ => false) true w = w.onMode := by
  cases w <;> rfl

theorem afterFailure_mode (g : Ingress) (r : FailReason) :
    g.afterFailure r false (fun _ => false) true = { g with wait := g.wait.filter fun w => !w.onMode } := by
  rw [Ingress.afterFailure_noneLeft]
  simp only [endedBy_mode]

theorem afterFailure_none (g : Ingress) (r : FailReason) : g.afterFailure r false (fun _ => false) false = g := by
  rw [Ingress.afterFailure_noneLeft, HeadWait.filter_endedBy_none]

/-- A change to a mode that ends the mode wait, in full (R139, R144). -/
theorem setMode_of_ending {m : Mode} (s : State) (r : FailReason) (h : m = .online ∨ m = .draining ∨ m = .faulted) :
    s.setMode m = { s with
      events := (s.pushAll [.modeChange m s.mode]).events
      mode := m
      ingress := s.ingress.afterFailure r false (fun _ => false) true } := by
  have hwait : s.setMode m = State.endWait { s.push (.modeChange m s.mode) with mode := m } HeadWait.onMode := by
    obtain rfl | rfl | rfl := h <;> rfl
  rw [hwait, State.endWait_eq, State.push_eq, afterFailure_mode]
  rfl

/-! ### The common effects of a fault (R118, R177) -/

/-- The ring manager with its update abandoned, the again flag and the space request cleared (R118, R119). -/
def stoppedRing (g : Ring) : Ring :=
  { g with
    update := .idle, snapshot := none, closing := false, toIssue := [], writesAcked := 0
    again := false, spaceRequest := false }

/-- The MODE_CHANGE of an entry to FAULTED (R177). -/
def faultedChange (m : Mode) : List EventBody := if m = .faulted then [] else [.modeChange .faulted m]

/-- The state after the report of a fault: FAULTED, with the ring manager stopped and a mode wait ended (R118, R144, R177). -/
def faultEntered (s : State) (r : FailReason) : State :=
  { s with
    mode := .faulted
    events := (s.pushAll (faultedChange s.mode)).events
    ring := stoppedRing s.ring
    ingress := s.ingress.afterFailure r false (fun _ => false) (decide (s.mode ≠ .faulted)) }

/-- A fault makes the mode FAULTED unless it is already, and stops the ring manager (R118, R177). -/
theorem enterFaulted_eq (s : State) (r : FailReason) : s.enterFaulted = faultEntered s r := by
  unfold State.enterFaulted faultEntered faultedChange
  by_cases h : s.mode = .faulted
  · have hfalse : decide (s.mode ≠ .faulted) = false := by simp [h]
    rw [if_pos h, if_pos h, hfalse, afterFailure_none, ← h]
    rfl
  · have htrue : decide (s.mode ≠ .faulted) = true := by simp [h]
    rw [if_neg h, if_neg h, htrue, setMode_of_ending s r (.inr (.inr rfl))]
    rfl

/-- The failure of every OPEN context, as one record (R37, R38, R39). -/
theorem failOpen_record (s : State) (r : FailReason) : ∃ v : Vector Context 16,
    (∀ x : ContextIx, v[x] = (s.ctx x).failedBy r s.timebase s.settings.orphanTimeout) ∧
    s.failOpen r = { s with
      contexts := v
      hold := s.hold.filter fun h => !(s.ctx h.owner).isOpen
      ingress := s.ingress.afterFailure r (s.hold.any fun h => (s.ctx h.owner).isOpen) (fun x => (s.ctx x).isOpen) false
      events := (s.pushAll (s.openFailures r)).events } := by
  obtain ⟨v, hv, h⟩ := State.failOpen_eq s r
  exact ⟨v, hv, h.trans (pushAll_eq_of_events _ rfl rfl)⟩

/-- A fault's entry to FAULTED and the failure of the OPEN contexts together, in full (R38, R39, R177). -/
theorem failOpen_enterFaulted (s : State) (r : FailReason) : ∃ v : Vector Context 16,
    (∀ x : ContextIx, v[x] = (s.ctx x).failedBy r s.timebase s.settings.orphanTimeout) ∧
    s.enterFaulted.failOpen r = { s with
      mode := .faulted
      contexts := v
      hold := s.hold.filter fun h => !(s.ctx h.owner).isOpen
      events := (s.pushAll (faultedChange s.mode ++ s.openFailures r)).events
      ring := stoppedRing s.ring
      ingress := s.ingress.afterFailure r (s.hold.any fun h => (s.ctx h.owner).isOpen) (fun x => (s.ctx x).isOpen)
        (decide (s.mode ≠ .faulted)) } := by
  obtain ⟨v, hv, hfail⟩ := failOpen_record (faultEntered s r) r
  have hingress : (faultEntered s r).ingress.afterFailure r (s.hold.any fun h => (s.ctx h.owner).isOpen)
      (fun x => (s.ctx x).isOpen) false = s.ingress.afterFailure r (s.hold.any fun h => (s.ctx h.owner).isOpen)
        (fun x => (s.ctx x).isOpen) (decide (s.mode ≠ .faulted)) := by
    refine (Ingress.afterFailure_afterFailure ..).trans ?_
    simp only [Bool.false_or, Bool.or_false]
  have hevents : ((faultEntered s r).pushAll (s.openFailures r)).events =
      (s.pushAll (faultedChange s.mode ++ s.openFailures r)).events := pushAll_events_append _ rfl rfl
  refine ⟨v, hv, ?_⟩
  rw [enterFaulted_eq s r, hfail, ← hingress, ← hevents]
  rfl

/-! ### The release fault (R130, R131) -/

/-- The effects of a release fault, in full, where events were pushed before in the same step (R93, R131). -/
theorem releaseFaultEffects_eq {s₀ s : State} {as : List EventBody} (he : s.events = (s₀.pushAll as).events)
    (ht : s.timebase = s₀.timebase) :
    let due := s.writer.active = true ∧ s.writer.openBatch ≠ [] ∧
      (∀ b ∈ s.writer.openBatch, b.toIssue = [] ∧ b.unanswered = 0) ∧ s.writer.flight = none
    ∃ (v : Vector Context 16) (w : Writer),
      (∀ x : ContextIx, v[x] = (s.ctx x).failedBy .journal s.timebase s.settings.orphanTimeout) ∧
      (due → w = { s.writer with
        openBatch := [], flight := some ⟨s.writer.openBatch.map BatchRecord.context, true⟩ }) ∧
      (¬due → w = s.writer) ∧
      s.releaseFaultEffects = { s with
        mode := .faulted
        release := { s.release with active := false, presented := none }
        contexts := v
        hold := s.hold.filter fun h => !(s.ctx h.owner).isOpen
        events := (s₀.pushAll (as ++ (faultedChange s.mode ++ s.openFailures .journal))).events
        ring := stoppedRing s.ring
        writer := w
        ingress := s.ingress.afterFailure .journal (s.hold.any fun h => (s.ctx h.owner).isOpen) (fun x => (s.ctx x).isOpen)
          (decide (s.mode ≠ .faulted)) } := by
  intro due
  obtain ⟨v, hv, hfail⟩ := failOpen_enterFaulted s.haltRelease .journal
  have hevents : (s.haltRelease.pushAll (faultedChange s.mode ++ s.openFailures .journal)).events =
      (s₀.pushAll (as ++ (faultedChange s.mode ++ s.openFailures .journal))).events := pushAll_events_append _ he ht
  generalize hmade : s.haltRelease.enterFaulted.failOpen .journal = made at hfail
  have heffects : s.releaseFaultEffects = made.checkFlush := congrArg State.checkFlush hmade
  have hdue : made.flushDue = true ↔ due := by
    subst hfail
    exact (flushDue_iff _).trans ⟨fun ⟨hact, hne, hall, hflight, _⟩ => ⟨hact, hne, hall, hflight⟩,
      fun ⟨hact, hne, hall, hflight⟩ => ⟨hact, hne, hall, hflight, .inr (.inr (.inr (by rintro (h | h) <;> cases h)))⟩⟩
  by_cases hd : due
  · refine ⟨v, _, hv, fun _ => rfl, fun hnot => absurd hd hnot, ?_⟩
    rw [heffects, checkFlush_of_due (hdue.mpr hd), hfail, ← hevents]
    rfl
  · refine ⟨v, _, hv, fun hyes => absurd hyes hd, fun _ => rfl, ?_⟩
    rw [heffects, checkFlush_of_not (mt hdue.mp hd), hfail, ← hevents]
    rfl

/-- Settles O39: the engine halts, the mode becomes FAULTED, OPEN contexts fail, and the check of R93 follows. -/
theorem failedReleaseWriteHaltsEngine : Obligations.FailedReleaseWriteHaltsEngine := by
  unfold Obligations.FailedReleaseWriteHaltsEngine
  intro s tag e c d o f m pl hentry href hactive hctx due
  have hexec : exec (.releaseWriteResponse tag .error) s = .next ((s.removeEntry tag).releaseFault c d e.address) := by
    have h := exec_responseCommand (r := .error) hentry (DownKind.fits_error _)
    unfold State.deliver at h
    obtain ⟨href, rfl⟩ | ⟨href, rfl⟩ := href
    · rw [href] at h
      exact h.trans (congrArg Host.Outcome.next (if_pos hactive))
    · rw [href] at h
      exact h.trans (congrArg Host.Outcome.next (if_pos hactive))
  have hfault : (s.removeEntry tag).releaseFault c d e.address =
      State.releaseFaultEffects { s.removeEntry tag with
        events := (s.push (.releaseFault c o.initiator o.window pl.sequence d e.address)).events } := by
    unfold State.releaseFault
    rw [show (s.removeEntry tag).ctx c = _ from hctx, ← push_eq_of_events (s := s) (t := s.removeEntry tag) _ rfl rfl]
  obtain ⟨v, w, hv, hyes, hno, heffects⟩ := releaseFaultEffects_eq (s₀ := s) (s := { s.removeEntry tag with
    events := (s.push (.releaseFault c o.initiator o.window pl.sequence d e.address)).events })
    (as := [.releaseFault c o.initiator o.window pl.sequence d e.address]) rfl rfl
  exact ⟨_, hexec.trans (congrArg Host.Outcome.next (hfault.trans heffects)), hv, hyes, hno, rfl⟩

/-! ### The journal fault (R38, R97) -/

/-- The freeing of a list of sealing contexts, as one record (R38). -/
theorem freeList_record {l : List ContextIx} {s : State} (hnodup : l.Nodup)
    (hall : ∀ c ∈ l, (s.ctx c).isQueued = true ∨ (s.ctx c).isWriting = true) :
    ∃ v : Vector Context 16, (∀ x : ContextIx, v[x] = if x ∈ l then .free else s.ctx x) ∧
      l.foldl State.freeOnFault s = { s with
        contexts := v
        hold := s.hold.filter fun h => !decide (h.owner ∈ l)
        ingress := s.ingress.afterFailure .journal (s.hold.any fun h => decide (h.owner ∈ l)) (fun _ => false) false
        upOut := s.upOut ++ l.filterMap fun c =>
          (s.ctx c).pending?.map fun p => (⟨p, .failed (.context .journal)⟩ : Answer)
        events := (s.pushAll (l.filterMap s.sealingFailure)).events } := by
  obtain ⟨v, hv, h⟩ := State.freeList_eq l s hnodup hall
  exact ⟨v, hv, h.trans (pushAll_eq_of_events _ rfl rfl)⟩

/-- The state of a journal fault before the OPEN contexts fail: the writer is empty and STOPPED, the mode FAULTED, and the sealing
contexts are gone (R38, R97). -/
def sealingFreed (s : State) (b : EventBody) (v : Vector Context 16) : State :=
  { s with
    mode := .faulted
    writer := ⟨false, [], [], none⟩
    contexts := v
    hold := s.hold.filter fun h => !decide (h.owner ∈ s.sealing)
    upOut := s.upOut ++ s.sealing.filterMap fun x => (s.ctx x).pending?.map fun p => ⟨p, .failed (.context .journal)⟩
    events := (s.pushAll (b :: faultedChange s.mode ++ s.sealingFailures)).events
    ring := stoppedRing s.ring
    ingress := s.ingress.afterFailure .journal (s.hold.any fun h => decide (h.owner ∈ s.sealing)) (fun _ => false)
      (decide (s.mode ≠ .faulted)) }

theorem journalFault_eq_failOpen {s : State} (d : JournalDetail) (a : Option Addr) (q : Option Word64)
    (hnodup : s.sealing.Nodup) (hall : ∀ c ∈ s.sealing, (s.ctx c).isQueued = true ∨ (s.ctx c).isWriting = true) :
    ∃ v : Vector Context 16, (∀ x : ContextIx, v[x] = if x ∈ s.sealing then .free else s.ctx x) ∧
      s.journalFault d a q = (sealingFreed s (.journalFault q d a s.sealing.length) v).failOpen .journal := by
  generalize hb : EventBody.journalFault q d a s.sealing.length = b
  let u : State := { s with events := (s.push b).events }
  obtain ⟨v, hv, hfree⟩ := freeList_record (s := faultEntered u.stopWriter .journal) hnodup hall
  have hevents : ((faultEntered u.stopWriter .journal).pushAll s.sealingFailures).events =
      (s.pushAll (b :: faultedChange s.mode ++ s.sealingFailures)).events :=
    pushAll_events_append (as := b :: faultedChange s.mode) _ (pushAll_events_append (as := [b]) _ rfl rfl) rfl
  have hingress : (faultEntered u.stopWriter .journal).ingress.afterFailure .journal
      (s.hold.any fun h => decide (h.owner ∈ s.sealing)) (fun _ => false) false =
        s.ingress.afterFailure .journal (s.hold.any fun h => decide (h.owner ∈ s.sealing)) (fun _ => false)
          (decide (s.mode ≠ .faulted)) := by
    refine (Ingress.afterFailure_afterFailure ..).trans ?_
    simp only [Bool.false_or, Bool.or_false]
    rfl
  refine ⟨v, hv, ?_⟩
  have hfault : s.journalFault d a q = State.failOpen { s.sealing.foldl State.freeOnFault (faultEntered u.stopWriter .journal) with
      writer := { (s.sealing.foldl State.freeOnFault (faultEntered u.stopWriter .journal)).writer with
        commitQueue := [], openBatch := [], flight := none } } .journal := by
    have hpush : s.push b = u := State.push_eq s b
    rw [← enterFaulted_eq _ .journal, ← hpush, ← hb]
    rfl
  rw [hfault, hfree]
  unfold sealingFreed
  rw [← hingress, ← hevents]
  rfl

theorem pending_of_sealed {x : Context} (h : ¬(x.isQueued = true ∨ x.isWriting = true)) : x.pending? = none := by
  cases x <;> first | rfl | simp [Context.isQueued, Context.isWriting] at h

/-- The contexts after a journal fault (R38). -/
def afterJournalFault (now : Word64) (orphan : Nat) (x : Context) : Context :=
  if x.isQueued || x.isWriting then .free else x.failedBy .journal now orphan

/-- A journal fault where the sealing contexts are exactly the QUEUED and WRITING ones, in full (R38, R97). -/
theorem journalFault_eq {s₀ s : State} (he : s.events = s₀.events) (ht : s.timebase = s₀.timebase) (d : JournalDetail)
    (a : Option Addr) (q : Option Word64) (hnodup : s.sealing.Nodup)
    (hsealing : ∀ c, c ∈ s.sealing ↔ (s.ctx c).isQueued = true ∨ (s.ctx c).isWriting = true) :
    ∃ v : Vector Context 16,
      (∀ x : ContextIx, v[x] = afterJournalFault s.timebase s.settings.orphanTimeout (s.ctx x)) ∧
      s.journalFault d a q = { s with
        mode := .faulted
        writer := ⟨false, [], [], none⟩
        contexts := v
        hold := s.hold.filter fun h => !((s.ctx h.owner).isOpen || (s.ctx h.owner).isQueued || (s.ctx h.owner).isWriting)
        upOut := s.upOut ++ s.sealing.filterMap fun x => (s.ctx x).pending?.map fun p => ⟨p, .failed (.context .journal)⟩
        events := (s₀.pushAll (.journalFault q d a s.sealing.length :: faultedChange s.mode ++ s.sealingFailures ++
          s.openFailures .journal)).events
        ring := stoppedRing s.ring
        ingress := s.ingress.afterFailure .journal
          (s.hold.any fun h => (s.ctx h.owner).isOpen || (s.ctx h.owner).isQueued || (s.ctx h.owner).isWriting)
          (fun x => (s.ctx x).isOpen) (decide (s.mode ≠ .faulted)) } := by
  obtain ⟨u, hu, hfault⟩ := journalFault_eq_failOpen d a q hnodup fun c hc => (hsealing c).mp hc
  generalize hb : EventBody.journalFault q d a s.sealing.length = b at hfault
  have hctx (x : ContextIx) : (sealingFreed s b u).ctx x = if x ∈ s.sealing then .free else s.ctx x := hu x
  have hmem (c : ContextIx) : decide (c ∈ s.sealing) = ((s.ctx c).isQueued || (s.ctx c).isWriting) := by
    rw [Bool.eq_iff_iff, decide_eq_true_eq, hsealing, Bool.or_eq_true]
  have hopen (x : ContextIx) : ((sealingFreed s b u).ctx x).isOpen = (s.ctx x).isOpen := by
    rw [hctx]
    by_cases hx : x ∈ s.sealing
    · rw [if_pos hx]
      obtain h | h := (hsealing x).mp hx <;> cases hc : s.ctx x <;> rw [hc] at h <;> first | rfl | cases h
    · rw [if_neg hx]
  have hholdopen (h : HeldSlot) : (!((sealingFreed s b u).ctx h.owner).isOpen && !decide (h.owner ∈ s.sealing)) =
      !((s.ctx h.owner).isOpen || (s.ctx h.owner).isQueued || (s.ctx h.owner).isWriting) := by
    rw [hopen, hmem]
    simp only [Bool.or_assoc, Bool.not_or]
  have hhold : (sealingFreed s b u).hold.filter (fun h => !((sealingFreed s b u).ctx h.owner).isOpen) =
      s.hold.filter fun h => !((s.ctx h.owner).isOpen || (s.ctx h.owner).isQueued || (s.ctx h.owner).isWriting) := by
    refine (List.filter_filter ..).trans (List.filter_congr fun h _ => hholdopen h)
  have hfailures : (sealingFreed s b u).openFailures .journal = s.openFailures .journal := by
    refine List.filterMap_congr fun c _ => ?_
    by_cases hc : c ∈ s.sealing
    · have hfree : (sealingFreed s b u).ctx c = .free := (hctx c).trans (if_pos hc)
      rw [hfree]
      obtain h | h := (hsealing c).mp hc <;> cases hx : s.ctx c <;> rw [hx] at h <;> first | rfl | cases h
    · have hcount : (sealingFreed s b u).entryCount c = s.entryCount c := by
        unfold State.entryCount State.slotList
        refine congrArg List.length ((List.filter_filter ..).trans (List.filter_congr fun h _ => ?_))
        by_cases hh : h.owner = c
        · simp [hh, hc]
        · simp [hh]
      rw [(hctx c).trans (if_neg hc), hcount]
  obtain ⟨v, hv, hfail⟩ := failOpen_record (sealingFreed s b u) .journal
  have hevents : ((sealingFreed s b u).pushAll ((sealingFreed s b u).openFailures .journal)).events =
      (s₀.pushAll (b :: faultedChange s.mode ++ s.sealingFailures ++ s.openFailures .journal)).events := by
    rw [hfailures]
    exact (pushAll_events_append (s := s) (t := sealingFreed s b u)
      (as := b :: faultedChange s.mode ++ s.sealingFailures) _ rfl rfl).trans
      (pushAll_events_congr _ he ht)
  have hingress : (sealingFreed s b u).ingress.afterFailure .journal
      ((sealingFreed s b u).hold.any fun h => ((sealingFreed s b u).ctx h.owner).isOpen)
      (fun x => ((sealingFreed s b u).ctx x).isOpen) false = s.ingress.afterFailure .journal
        (s.hold.any fun h => (s.ctx h.owner).isOpen || (s.ctx h.owner).isQueued || (s.ctx h.owner).isWriting)
        (fun x => (s.ctx x).isOpen) (decide (s.mode ≠ .faulted)) := by
    refine (Ingress.afterFailure_afterFailure ..).trans ?_
    have hany : ((s.hold.any fun h => decide (h.owner ∈ s.sealing)) ||
        ((sealingFreed s b u).hold.any fun h => ((sealingFreed s b u).ctx h.owner).isOpen)) =
          s.hold.any fun h => (s.ctx h.owner).isOpen || (s.ctx h.owner).isQueued || (s.ctx h.owner).isWriting := by
      have hfilter : ((sealingFreed s b u).hold.any fun h => ((sealingFreed s b u).ctx h.owner).isOpen) =
          s.hold.any fun h => !decide (h.owner ∈ s.sealing) && (s.ctx h.owner).isOpen := by
        simp only [hopen]
        exact List.any_filter
      rw [hfilter, Bool.eq_iff_iff]
      simp only [hmem, Bool.or_eq_true, List.any_eq_true, ← exists_or, ← and_or_left]
      refine exists_congr fun h => and_congr_right fun _ => ?_
      cases (s.ctx h.owner).isOpen <;> cases (s.ctx h.owner).isQueued <;> cases (s.ctx h.owner).isWriting <;> decide
    rw [hany]
    simp only [Bool.false_or, Bool.or_false, hopen]
  refine ⟨v, fun x => ?_, ?_⟩
  · rw [hv x, hctx]
    unfold afterJournalFault
    rw [← hmem]
    by_cases hx : x ∈ s.sealing
    · rw [if_pos hx, if_pos (decide_eq_true hx)]
      rfl
    · rw [if_neg hx, if_neg (by simpa using hx)]
      rfl
  · subst hb
    rw [hfault, hfail, ← hhold, ← hevents, ← hingress]
    rfl

/-! ### The commit pipeline's law, as a journal fault uses it (R17, R93) -/

theorem sealing_nodup {s : State} (h : s.PipelineLaw) : s.sealing.Nodup := by
  obtain ⟨hnodup, -⟩ := h
  unfold State.sealed at hnodup
  rw [List.append_assoc, List.append_assoc] at hnodup
  exact (List.nodup_append.mp (List.nodup_append.mp hnodup).2.1).2.1

theorem mem_sealing_iff {s : State} (h : s.PipelineLaw) (c : ContextIx) :
    c ∈ s.sealing ↔ (s.ctx c).isQueued = true ∨ (s.ctx c).isWriting = true := by
  obtain ⟨-, hqueues, -⟩ := h
  obtain ⟨hqueued, hwriting, -⟩ := hqueues c
  unfold State.sealing
  rw [List.mem_append, hqueued, hwriting, or_comm]

/-- Settles O30: each failed request is its JOURNAL_FAULT, whose effects are the same. -/
theorem failedJournalRequestIsJournalFault : Obligations.FailedJournalRequestIsJournalFault := by
  unfold Obligations.FailedJournalRequestIsJournalFault
  intro s tag e d q a hlaw hentry hcase
  have hexec := exec_responseCommand (r := .error) hentry (DownKind.fits_error _)
  unfold State.deliver at hexec
  have hnodup := sealing_nodup hlaw
  have hmem := mem_sealing_iff hlaw
  obtain ⟨c, href, hactive, rfl, rfl, rfl⟩ | ⟨f, href, hactive, hflight, rfl, rfl, rfl⟩ | ⟨hclosing, rfl, hcase⟩ := hcase
  · obtain ⟨v, hv, hfault⟩ := journalFault_eq (s₀ := s) (s := s.removeEntry tag) rfl rfl .write e.address (s.ctx c).sequence?
      hnodup hmem
    rw [href] at hexec ⊢
    exact ⟨_, hexec.trans (congrArg Host.Outcome.next (.trans (if_pos hactive) hfault)), hv, rfl⟩
  · obtain ⟨v, hv, hfault⟩ := journalFault_eq (s₀ := s) (s := s.removeEntry tag) rfl rfl .flush none
      (f.contexts.head?.bind fun c => (s.ctx c).sequence?) hnodup hmem
    have hanswer : (s.removeEntry tag).recordFlushAnswer .error = (s.removeEntry tag).journalFault .flush none
        (f.contexts.head?.bind fun c => (s.ctx c).sequence?) := by
      unfold State.recordFlushAnswer
      rw [if_pos (by exact hactive), State.removeEntry_writer, hflight]
      rfl
    rw [href] at hexec ⊢
    exact ⟨_, hexec.trans (congrArg Host.Outcome.next (hanswer.trans hfault)), hv, rfl⟩
  · obtain ⟨v, hv, hfault⟩ := journalFault_eq (s₀ := s) (s := (s.removeEntry tag).abandonUpdate) rfl rfl d a
      (s.ring.snapshot.map Snapshot.sequence) hnodup hmem
    have hanchor (x : Option Addr) (ha : some (x.getD (s.copyAddr s.ring.nextCopy)) = a) :
        (s.removeEntry tag).updateError d x =
          (s.removeEntry tag).abandonUpdate.journalFault d a (s.ring.snapshot.map Snapshot.sequence) := by
      unfold State.updateError State.anchorFault
      rw [if_neg (by simp [hclosing]), ← ha]
      rfl
    obtain ⟨href, hupdate, rfl, hsome, rfl⟩ | ⟨hflush, rfl, rfl⟩ := hcase
    · rw [href] at hexec ⊢
      have hanswer : (s.removeEntry tag).anchorWriteAnswer e.address .error = (s.removeEntry tag).updateError .anchorWrite e.address := by
        unfold State.anchorWriteAnswer
        rw [State.removeEntry_ring, hupdate]
      obtain ⟨x, hx⟩ := Option.isSome_iff_exists.mp hsome
      exact ⟨_, hexec.trans (congrArg Host.Outcome.next (hanswer.trans
        ((hanchor _ (by rw [hx]; rfl)).trans hfault))), hv, rfl⟩
    · obtain ⟨href, hupdate⟩ | ⟨href, hupdate⟩ := hflush
      · rw [href] at hexec ⊢
        have hanswer : (s.removeEntry tag).homeFlushAnswer .error = (s.removeEntry tag).updateError .anchorFlush none := by
          unfold State.homeFlushAnswer
          rw [State.removeEntry_ring, hupdate]
        exact ⟨_, hexec.trans (congrArg Host.Outcome.next (hanswer.trans ((hanchor _ rfl).trans hfault))), hv, rfl⟩
      · rw [href] at hexec ⊢
        have hanswer : (s.removeEntry tag).anchorFlushAnswer .error = (s.removeEntry tag).updateError .anchorFlush none := by
          unfold State.anchorFlushAnswer
          rw [State.removeEntry_ring, hupdate]
        exact ⟨_, hexec.trans (congrArg Host.Outcome.next (hanswer.trans ((hanchor _ rfl).trans hfault))), hv, rfl⟩

/-! ### The power-fail warning (R180–R184) -/

/-- The check of the start conditions on entry to DRAINING (R112, R181). -/
theorem drainTrigger_eq (s : State) : s.drainTrigger = { s with 
    ring := (if s.ring.update = .idle then s.ring.startChecked s.mode s.settings.anchorInterval
      else { s.ring with again := true }) } := by
  unfold State.drainTrigger
  by_cases h : s.ring.update = .idle
  · rw [if_pos h, if_pos h, State.startUpdate_eq]
  · rw [if_neg h, if_neg h]

/-- In DRAINING a check of the start conditions starts an update wherever something is unanchored (R112). -/
theorem startChecked_of_draining {g : Ring} (k : Nat) (hidle : g.update = .idle) (hbytes : g.unanchored ≠ 0) :
    g.startChecked .draining k = { g with again := false, update := .homeFlush, toIssue := [(.flush, .homeFlush)] } :=
  if_pos ⟨hidle, .inr rfl, hbytes, .inr (.inr (.inl rfl))⟩

/-- The ring manager on entry to DRAINING (R112, R181). -/
def drainRing (g : Ring) (k : Nat) : Ring :=
  if g.update = .idle then g.startChecked .draining k else { g with again := true }

theorem drainRing_unanchored (g : Ring) (k : Nat) : (drainRing g k).unanchored = g.unanchored := by
  unfold drainRing Ring.startChecked
  split
  · split <;> rfl
  · rfl

theorem drainRing_durableSequence (g : Ring) (k : Nat) : (drainRing g k).durableSequence = g.durableSequence := by
  unfold drainRing Ring.startChecked
  split
  · split <;> rfl
  · rfl

/-- The entry to DRAINING before its drain check, in full (R37, R181). -/
theorem enterDraining_eq (s : State) : ∃ v : Vector Context 16,
    (∀ x : ContextIx, v[x] = (s.ctx x).failedBy .power s.timebase s.settings.orphanTimeout) ∧
    s.enterDraining = State.drainCheck { s with
      mode := .draining
      contexts := v
      hold := s.hold.filter fun h => !(s.ctx h.owner).isOpen
      ring := drainRing s.ring s.settings.anchorInterval
      ingress := s.ingress.afterFailure .power (s.hold.any fun h => (s.ctx h.owner).isOpen) (fun x => (s.ctx x).isOpen) true
      events := (s.pushAll (.modeChange .draining s.mode :: s.openFailures .power)).events } := by
  let u : State := { s with
    events := (s.pushAll [.modeChange .draining s.mode]).events
    mode := .draining
    ingress := s.ingress.afterFailure .power false (fun _ => false) true }
  have hmode : s.setMode .draining = u := setMode_of_ending s .power (.inr (.inl rfl))
  obtain ⟨v, hv, hfail⟩ := failOpen_record u .power
  have hevents : (u.pushAll (u.openFailures .power)).events =
      (s.pushAll (.modeChange .draining s.mode :: s.openFailures .power)).events :=
    pushAll_events_append (as := [_]) _ rfl rfl
  have hingress : u.ingress.afterFailure .power (s.hold.any fun h => (s.ctx h.owner).isOpen) (fun x => (s.ctx x).isOpen) false =
      s.ingress.afterFailure .power (s.hold.any fun h => (s.ctx h.owner).isOpen) (fun x => (s.ctx x).isOpen) true := by
    refine (Ingress.afterFailure_afterFailure ..).trans ?_
    simp only [Bool.false_or, Bool.or_false]
  refine ⟨v, hv, ?_⟩
  unfold State.enterDraining
  rw [hmode, hfail, drainTrigger_eq, ← hevents, ← hingress]
  rfl

theorem drainRing_of_busy {g : Ring} (k : Nat) (h : g.update ≠ .idle) : drainRing g k = { g with again := true } := if_neg h

theorem drainRing_of_unanchored {g : Ring} (k : Nat) (hidle : g.update = .idle) (hbytes : g.unanchored ≠ 0) :
    drainRing g k = { g with again := false, update := .homeFlush, toIssue := [(.flush, .homeFlush)] } :=
  (if_pos hidle).trans (startChecked_of_draining k hidle hbytes)

theorem drainRing_of_anchored {g : Ring} (k : Nat) (hidle : g.update = .idle) (hnone : g.unanchored = 0) : drainRing g k = g :=
  (if_pos hidle).trans (Ring.startChecked_of_anchored _ _ hnone)

/-- The entry to DRAINING with its drain check, in full (R37, R181, R183). -/
theorem enterDraining_record (s : State) :
    let done := s.writer.commitQueue = [] ∧ s.writer.openBatch = [] ∧ s.writer.flight = none ∧ s.release.queue = [] ∧
      s.release.releasing = [] ∧ s.ring.unanchored = 0
    let entry := EventBody.modeChange .draining s.mode :: s.openFailures .power
    ∃ (v : Vector Context 16) (m : Mode) (bs : List EventBody),
      (∀ x : ContextIx, v[x] = (s.ctx x).failedBy .power s.timebase s.settings.orphanTimeout) ∧
      (done → m = .drained ∧ bs = entry ++ [.modeChange .drained .draining, .drainDone s.ring.durableSequence]) ∧
      (¬done → m = .draining ∧ bs = entry) ∧
      s.enterDraining = { s with
        mode := m
        contexts := v
        hold := s.hold.filter fun h => !(s.ctx h.owner).isOpen
        ring := drainRing s.ring s.settings.anchorInterval
        ingress := s.ingress.afterFailure .power (s.hold.any fun h => (s.ctx h.owner).isOpen) (fun x => (s.ctx x).isOpen) true
        events := (s.pushAll bs).events } := by
  intro done entry
  obtain ⟨v, hv, hdrain⟩ := enterDraining_eq s
  generalize hu : ({ s with
      mode := .draining
      contexts := v
      hold := s.hold.filter fun h => !(s.ctx h.owner).isOpen
      ring := drainRing s.ring s.settings.anchorInterval
      ingress := s.ingress.afterFailure .power (s.hold.any fun h => (s.ctx h.owner).isOpen) (fun x => (s.ctx x).isOpen) true
      events := (s.pushAll (.modeChange .draining s.mode :: s.openFailures .power)).events } : State) = u at hdrain
  have hdone : u.drainDone = true ↔ done := by
    subst hu
    rw [State.drainDone_iff, drainRing_unanchored]
    exact ⟨fun ⟨_, h⟩ => h, fun h => ⟨rfl, h⟩⟩
  by_cases hd : done
  · have hevents : (u.pushAll [.modeChange .drained .draining, .drainDone u.ring.durableSequence]).events =
        (s.pushAll (entry ++ [.modeChange .drained .draining, .drainDone s.ring.durableSequence])).events := by
      subst hu
      rw [drainRing_durableSequence]
      exact pushAll_events_append (as := entry) _ rfl rfl
    refine ⟨v, .drained, _, hv, fun _ => ⟨rfl, rfl⟩, fun hnot => absurd hd hnot, ?_⟩
    rw [hdrain, State.drainCheck_of_done (hdone.mpr hd), pushAll_eq u, hevents]
    subst hu
    rfl
  · refine ⟨v, .draining, _, hv, fun hyes => absurd hyes hd, fun _ => ⟨rfl, rfl⟩, ?_⟩
    rw [hdrain, State.drainCheck_of_not (by simpa using mt hdone.mp hd), ← hu]

/-- The return to ONLINE on the deassertion of PFWARN (R112, R184). -/
theorem startUpdate_setMode_online (s : State) : (State.setMode { s with pfwarn := false } .online).startUpdate =
    { s.push (.modeChange .online s.mode) with
      pfwarn := false, mode := .online
      ring := s.ring.startChecked .online s.settings.anchorInterval
      ingress := { s.ingress with wait := s.ingress.wait.filter fun w => !w.onMode } } := by
  have hevents : (State.push { s with pfwarn := false } (.modeChange .online s.mode)).events =
      (s.push (.modeChange .online s.mode)).events := State.push_events_congr _ rfl rfl
  rw [setMode_of_carriesCommits _ (.inl rfl), State.startUpdate_eq, State.push_eq s, ← hevents]

/-- Settles O48: the entry to DRAINING with its drain check, the return to ONLINE, and the latched changes. -/
theorem pfwarnStartsAndEndsTheDrain : Obligations.PfwarnStartsAndEndsTheDrain := by
  unfold Obligations.PfwarnStartsAndEndsTheDrain
  intro s
  refine ⟨fun hhigh => congrArg Host.Outcome.next (if_pos hhigh), fun hlow hmode => congrArg Host.Outcome.next ?_,
    fun hlow hmode => ?_, fun hlow => congrArg Host.Outcome.next (if_neg (by simp [hlow])),
    fun hhigh hmode => congrArg Host.Outcome.next ?_, fun hhigh hdraining hdrained => congrArg Host.Outcome.next ?_⟩
  · unfold State.assertPfwarn
    rw [if_neg (by simp [hlow])]
    cases hm : s.mode <;> first | exact absurd hm hmode | rfl
  · intro done entry
    obtain ⟨v, m, bs, hv, hyes, hno, hdrain⟩ := enterDraining_record { s with pfwarn := true }
    have hexec : exec .pfwarnAsserted s = .next (State.enterDraining { s with pfwarn := true }) := by
      refine congrArg Host.Outcome.next ?_
      unfold State.assertPfwarn
      rw [if_neg (by simp [hlow])]
      simp only [hmode]
    have hentry : EventBody.modeChange .draining s.mode :: s.openFailures .power = entry := by rw [hmode]
    have hevents : (State.pushAll { s with pfwarn := true } bs).events = (s.pushAll bs).events := pushAll_events_congr _ rfl rfl
    refine ⟨_, hexec.trans (congrArg Host.Outcome.next hdrain), hv, drainRing_of_busy _, drainRing_of_unanchored _,
      drainRing_of_anchored _, fun hd => ?_, fun hd => ?_, rfl⟩
    · obtain ⟨hm, hbs⟩ := hyes hd
      exact ⟨hm, hevents.trans (by rw [hbs, ← hentry]; rfl)⟩
    · obtain ⟨hm, hbs⟩ := hno hd
      exact ⟨hm, hevents.trans (by rw [hbs, ← hentry]; rfl)⟩
  · unfold State.deassertPfwarn
    rw [if_pos hhigh]
    obtain hm | hm := hmode
    · rw [← startUpdate_setMode_online]
      simp only [hm]
    · rw [← startUpdate_setMode_online]
      simp only [hm]
  · unfold State.deassertPfwarn
    rw [if_pos hhigh]
    cases hm : s.mode <;> first | exact absurd hm hdraining | exact absurd hm hdrained | rfl

/-! ### The recovery fault (R159) -/

/-- A recovery fault, in full (R144, R159). -/
theorem recoveryFault_eq {s₀ s : State} (he : s.events = s₀.events) (ht : s.timebase = s₀.timebase) (d : RecoveryDetail)
    (a : Option Addr) : s.recoveryFault d a = { s with
      events := (s₀.pushAll [.recoveryFault s.recovery.phase.expected? d a s.recovery.phase.replayed?,
        .modeChange .faulted s.mode]).events
      mode := .faulted
      upOut := s.upOut ++ s.inDoubt.map fun d => ⟨d.requester, .failed .recovery⟩
      inDoubt := []
      ring := { s.ring with update := .idle, snapshot := none, closing := false, toIssue := [], writesAcked := 0 }
      ingress := { s.ingress with wait := s.ingress.wait.filter fun w => !w.onMode }
      recovery := ⟨.idle, []⟩ } := by
  generalize hb : EventBody.recoveryFault s.recovery.phase.expected? d a s.recovery.phase.replayed? = b
  let u : State := { s.abandonUpdate.settleInDoubt fun _ => .failed .recovery with events := (s.push b).events }
  have hu : (s.abandonUpdate.settleInDoubt fun _ => .failed .recovery).push b = u := push_eq_of_events b rfl rfl
  have hevents : (u.pushAll [.modeChange .faulted s.mode]).events = (s₀.pushAll [b, .modeChange .faulted s.mode]).events :=
    (pushAll_events_append (s := s) (t := u) (as := [b]) _ rfl rfl).trans (pushAll_events_congr _ he ht)
  unfold State.recoveryFault
  rw [hb]
  simp only [hu]
  rw [setMode_of_ending u .journal (.inr (.inr rfl)), afterFailure_mode, ← hevents]
  rfl

/-- The error of a request of the closing update (R120, R159). -/
theorem updateError_of_closing {s : State} (h : s.ring.closing = true) (d : JournalDetail) (a : Option Addr) :
    s.updateError d a = s.recoveryFault .close a := if_pos h

section Errors

variable {s : State} (a : Option Addr)

theorem anchorReadAnswer_error {f : Bool} {x y : Option (List Byte)} (copy : AnchorCopy) (h : s.recovery.phase = .anchors f x y) :
    s.anchorReadAnswer copy a .error = s.recoveryFault .anchorRead a := by
  unfold State.anchorReadAnswer; rw [h]

theorem scanAnswer_error {k : Scan} (ref : Ref) (h : s.recovery.phase = .scan k) :
    s.scanAnswer ref a .error = s.recoveryFault .scanRead a := by
  unfold State.scanAnswer; rw [h]

theorem replayEntryAnswer_error {k : Scan} (h : s.recovery.phase = .scan k) :
    s.replayEntryAnswer a .error = s.recoveryFault .replay a := by
  unfold State.replayEntryAnswer; rw [h]

theorem replayMarkerAnswer_error {k : Scan} (h : s.recovery.phase = .scan k) :
    s.replayMarkerAnswer a .error = s.recoveryFault .replay a := by
  unfold State.replayMarkerAnswer; rw [h]

theorem zeroAnswer_error {k : Close} (h : s.recovery.phase = .close k) : s.zeroAnswer a .error = s.recoveryFault .replay a := by
  unfold State.zeroAnswer; rw [h]

theorem homeFlushAnswer_error (h : s.ring.update = .homeFlush) : s.homeFlushAnswer .error = s.updateError .anchorFlush none := by
  unfold State.homeFlushAnswer; rw [h]

theorem anchorWriteAnswer_error (h : s.ring.update = .anchorWrite) :
    s.anchorWriteAnswer a .error = s.updateError .anchorWrite a := by
  unfold State.anchorWriteAnswer; rw [h]

theorem anchorFlushAnswer_error (h : s.ring.update = .anchorFlush) : s.anchorFlushAnswer .error = s.updateError .anchorFlush none := by
  unfold State.anchorFlushAnswer; rw [h]

end Errors

/-- Two copies that are not valid end a recovery without FORMAT (R150, R151). -/
theorem judgeAnchors_of_none {s : State} {p q : List Byte}
    (hp : anchorValid p s.settings.ringSizeLog2 s.settings.journalBase = false)
    (hq : anchorValid q s.settings.ringSizeLog2 s.settings.journalBase = false) :
    s.judgeAnchors false p q = s.recoveryFault .noAnchor (some s.settings.journalBase) := by
  unfold State.judgeAnchors chooseAnchor
  rw [hp, hq]

/-- An idle recovery engine absorbs every answer (R159). -/
theorem deliver_of_recovered {s : State} {e : OutEntry} (h : s.recovery.phase = .idle) (hport : e.ref.port = .recovery)
    (r : DownResponse) : s.deliver e r = s := by
  unfold State.deliver
  cases href : e.ref <;> rw [href] at hport <;> cases hport
  · unfold State.anchorReadAnswer; rw [h]
  · simp only [State.scanAnswer, h]
  · simp only [State.scanAnswer, h]
  · simp only [State.scanAnswer, h]
  · simp only [State.replayEntryAnswer, h]
  · simp only [State.replayMarkerAnswer, h]
  · simp only [State.zeroAnswer, h]

/-- Settles O47: every failed request of a recovery ends it by the same recovery fault, and an ended one absorbs every answer. -/
theorem recoveryFaultEndsInFaulted : Obligations.RecoveryFaultEndsInFaulted := by
  unfold Obligations.RecoveryFaultEndsInFaulted
  intro s tag e hentry taken faulted failed
  have hfault (d : RecoveryDetail) (a : Option Addr) : (s.removeEntry tag).recoveryFault d a = faulted d a := by
    have hevents : (taken.pushAll [.recoveryFault s.recovery.phase.expected? d a s.recovery.phase.replayed?,
        .modeChange .faulted s.mode]).events = (s.pushAll [.recoveryFault s.recovery.phase.expected? d a
          s.recovery.phase.replayed?, .modeChange .faulted s.mode]).events := pushAll_events_congr _ rfl rfl
    refine (recoveryFault_eq (s₀ := taken) rfl rfl d a).trans ?_
    simp only [faulted]
    rw [pushAll_eq taken]
  have hfailed (d : RecoveryDetail) (a : Option Addr)
      (hd : (s.removeEntry tag).deliver e .error = (s.removeEntry tag).recoveryFault d a) : failed = .next (faulted d a) :=
    (exec_responseCommand hentry (DownKind.fits_error _)).trans (congrArg Host.Outcome.next (hd.trans (hfault d a)))
  refine ⟨fun copy format x y href hphase => hfailed _ _ ?_, fun k href hphase => hfailed _ _ ?_,
    fun k href hphase => hfailed _ _ ?_, fun k href hphase => hfailed _ _ ?_, fun hclosing => ⟨fun hflush => hfailed _ _ ?_,
    fun ⟨href, hupdate⟩ => hfailed _ _ ?_⟩, fun p q data copy href hkind hboth hp hq => ?_, fun hidle hport r hfits => ?_⟩
  · unfold State.deliver
    rw [href]
    exact anchorReadAnswer_error _ _ hphase
  · unfold State.deliver
    obtain href | href | ⟨o, href⟩ := href <;> rw [href] <;> exact scanAnswer_error _ _ hphase
  · unfold State.deliver
    obtain href | href := href <;> rw [href]
    · exact replayEntryAnswer_error _ hphase
    · exact replayMarkerAnswer_error _ hphase
  · unfold State.deliver
    rw [href]
    exact zeroAnswer_error _ hphase
  · unfold State.deliver
    obtain ⟨href, hupdate⟩ | ⟨href, hupdate⟩ := hflush <;> rw [href]
    · exact (homeFlushAnswer_error (s := s.removeEntry tag) hupdate).trans (updateError_of_closing (s := s.removeEntry tag) hclosing _ _)
    · exact (anchorFlushAnswer_error (s := s.removeEntry tag) hupdate).trans (updateError_of_closing (s := s.removeEntry tag) hclosing _ _)
  · unfold State.deliver
    rw [href]
    exact (anchorWriteAnswer_error (s := s.removeEntry tag) _ hupdate).trans (updateError_of_closing (s := s.removeEntry tag) hclosing _ _)
  · have hexec := exec_responseCommand (r := .ack data) hentry (by simp [hkind])
    unfold State.deliver at hexec
    rw [href] at hexec
    refine hexec.trans (congrArg Host.Outcome.next (Eq.trans ?_ (hfault _ _)))
    have hjudge := judgeAnchors_of_none (s := s.removeEntry tag) hp hq
    obtain ⟨rfl, rfl, x, hphase⟩ | ⟨rfl, rfl, y, hphase⟩ := hboth
    · unfold State.anchorReadAnswer
      rw [State.removeEntry_recovery, hphase]
      exact hjudge
    · unfold State.anchorReadAnswer
      rw [State.removeEntry_recovery, hphase]
      exact hjudge
  · exact (exec_responseCommand hentry hfits).trans (congrArg Host.Outcome.next (deliver_of_recovered (s := s.removeEntry tag) hidle hport r))

end Sys2Proof.Proofs.Faults
end

section
/-! PROOF. The arbiter's grant, the order of release writes, retirement, the warm reset, and the end of an anchor update. -/

namespace Sys2Proof.Proofs.Grants
open Sys2Proof Sys2Proof.Machine Sys2Proof.Proofs.AnchorStart Sys2Proof.Proofs.Answers

/-! ### What a granted request leaves behind (R91, R92, R93) -/

/-- While the record flush waits for its grant it is what the writer presents (R93). -/
theorem presents_flush {w : Writer} {contexts : List ContextIx} (h : w.flight = some ⟨contexts, true⟩) :
    w.presents = some (.flush, .recordFlush) := by
  unfold Writer.presents
  rw [h]

/-- Behind records with nothing to issue the first write of the next record is presented (R91). -/
theorem presents_recordWrite {w : Writer} {done more : List BatchRecord} {b : BatchRecord} {q : DownRequest}
    {writes : List DownRequest} (hflight : ∀ contexts, w.flight ≠ some ⟨contexts, true⟩) (hbatch : w.openBatch = done ++ b :: more)
    (hdone : ∀ d ∈ done, d.toIssue = []) (hb : b.toIssue = q :: writes) : w.presents = some (q, .recordWrite b.context) := by
  have hfirst : (w.openBatch.findSome? fun b => b.toIssue.head?.map fun q => (q, Ref.recordWrite b.context)) =
      some (q, .recordWrite b.context) := by
    rw [hbatch, List.findSome?_append, List.findSome?_eq_none_iff.mpr fun d hd => by rw [hdone d hd]; rfl, Option.none_or,
      List.findSome?_cons, hb]
    rfl
  unfold Writer.presents
  split
  · rename_i contexts heq
    exact absurd heq (hflight contexts)
  · exact hfirst

/-- The grant takes the write out of its record and counts it as unanswered (R92). -/
theorem popRecordWrite_eq {b : BatchRecord} {q : DownRequest} {writes : List DownRequest} (more : List BatchRecord)
    (hb : b.toIssue = q :: writes) : ∀ done : List BatchRecord, (∀ d ∈ done, d.toIssue = []) →
    popRecordWrite b.context (done ++ b :: more) = done ++ { b with toIssue := writes, unanswered := b.unanswered + 1 } :: more := by
  intro done
  induction done with
  | nil =>
    intro _
    refine (if_pos ⟨rfl, by rw [hb]; exact List.cons_ne_nil _ _⟩).trans ?_
    rw [hb]
    rfl
  | cons d done ih =>
    intro hdone
    refine (if_neg fun h => h.2 (hdone d (List.mem_cons_self ..))).trans ?_
    exact congrArg (d :: ·) (ih fun x hx => hdone x (List.mem_cons_of_mem _ hx))

/-- The presented release write is counted as issued, and an ACTIVE engine presents the next ready write (R125). -/
theorem releaseGranted_release (s : State) (w : ReleaseWrite) :
    let issued := s.release.releasing.map fun x => match w with
      | .line c => if x.context = c then { x with issued := x.issued + 1 } else x
      | .marker c => if x.context = c then { x with markerIssued := true } else x
    (s.releaseGranted w).release = { s.release with
      releasing := issued
      presented := if s.release.active then readyWrite s.entryCount issued true true else none } := by
  intro issued
  have hpresent (u : State) (hu : u.release.presented = none) : u.presentRelease.release = { u.release with
      presented := if u.release.active then readyWrite u.entryCount u.release.releasing true true else none } := by
    by_cases hactive : u.release.active = true
    · rw [presentRelease_of_active hactive, hu, if_pos hactive]
      rfl
    · have hsame : u.presentRelease = u := if_neg (by simp [hactive])
      rw [hsame, if_neg hactive, ← hu]
  cases w with
  | line c => exact hpresent _ rfl
  | marker c => exact hpresent _ rfl

/-- A granted request of the ring manager leaves its list (R111). -/
theorem granted_ring_toIssue (s : State) (ref : Ref) : (s.granted .ring ref).ring.toIssue = s.ring.toIssue.tail := by
  cases ref with
  | homeFlush =>
    unfold State.granted Ring.takeSnapshot
    by_cases h : s.ring.closing = true
    · exact congrArg Ring.toIssue (if_pos h)
    · exact congrArg Ring.toIssue (if_neg h)
  | _ => rfl

theorem releaseRequest_ref {s : State} {w : ReleaseWrite} {q : DownRequest} {ref : Ref}
    (h : s.releaseRequest w = some (q, ref)) :
    ref = match w with | .line c => .releaseLine c | .marker c => .releaseMarker c := by
  unfold State.releaseRequest at h
  cases w with
  | line c =>
    simp only at h
    cases hp : s.progress c with
    | none => rw [hp] at h; cases h
    | some p =>
      rw [hp] at h
      simp only [Option.map_eq_some_iff] at h
      obtain ⟨x, -, hx⟩ := h
      exact (congrArg Prod.snd hx).symm
  | marker c =>
    simp only at h
    cases hx : s.ctx c <;> rw [hx] at h <;> cases h
    rfl

/-- Settles O25: the first ready requester of the ring order, the first free tag, and what the grant does in its block. -/
theorem grantIssuesFirstReadyRequest : Obligations.GrantIssuesFirstReadyRequest := by
  unfold Obligations.GrantIssuesFirstReadyRequest
  refine ⟨fun s hfull => congrArg Host.Outcome.next (if_neg (Nat.not_lt.mpr hfull)), fun s hnone => ?_,
    fun s before after p q ref hroom hring hbefore hp => ?_⟩
  · have hready : s.firstReady = none := by
      unfold State.firstReady
      rw [List.findSome?_eq_none_iff]
      exact fun p _ => by rw [hnone p]; rfl
    refine congrArg Host.Outcome.next ?_
    unfold State.arbiterGrant
    rw [hready]
    exact ite_self _
  · have hexec := exec_arbiterGrant_of_presents hroom hring hbefore hp
    obtain ⟨ingress, writer, ring, release, recovery, hgrant, hingress, hwriter, hringSame, hrelease, hrecovery⟩ :=
      State.granted_frame s p q ref
    obtain ⟨skipped, -, htag, hskipped, -⟩ := freeTag_spec (s.downstream.outstanding.map OutEntry.tag)
      s.downstream.outstanding.length s.downstream.counter
    have hfree : s.downstream.nextTag ∉ s.downstream.outstanding.map OutEntry.tag := by
      have := freeTag_not_mem (s.downstream.outstanding.map OutEntry.tag) (by rw [List.length_map]; omega) s.downstream.counter
      rwa [List.length_map] at this
    have hof {α : Type} (f : State → α) : f ((s.issue p q ref).granted p ref) = f { s.issue p q ref with
        ingress := ingress, writer := writer, ring := ring, release := release, recovery := recovery } := congrArg f hgrant
    refine ⟨_, s.downstream.nextTag, skipped, hexec.trans (congrArg Host.Outcome.next hgrant), htag, fun j hj => ?_,
      fun e he hte => hfree (List.mem_map.mpr ⟨e, he, hte⟩), rfl, rfl, fun hport => ?_, hingress, hwriter, hringSame,
      fun contexts hport hflight => ?_, fun done b more writes hport hflight hbatch hdone hb => ?_, fun hport => ⟨?_, fun hne => ?_⟩,
      fun hport hne => ?_, fun w hport hw => ?_, hrelease, hrecovery, rfl⟩
    · obtain ⟨e, he, hte⟩ := List.mem_map.mp (hskipped j hj)
      exact ⟨e, he, hte⟩
    · subst hport
      exact (hof State.ingress).symm
    · subst hport
      have hpresents : (q, ref) = (.flush, .recordFlush) := Option.some.inj (hp.symm.trans (presents_flush hflight))
      obtain rfl : ref = .recordFlush := congrArg Prod.snd hpresents
      refine (hof State.writer).symm.trans ?_
      show ({ s.writer with flight := s.writer.flight.map fun f => ({ f with presented := false } : RecordFlush) } : Writer) = _
      rw [hflight]
      rfl
    · subst hport
      have hpresents : (q, ref) = (q, .recordWrite b.context) :=
        Option.some.inj (hp.symm.trans (presents_recordWrite hflight hbatch hdone hb))
      obtain rfl : ref = .recordWrite b.context := congrArg Prod.snd hpresents
      refine ⟨rfl, (hof State.writer).symm.trans ?_⟩
      show { s.writer with openBatch := popRecordWrite b.context s.writer.openBatch } = _
      rw [hbatch, popRecordWrite_eq more hb done hdone]
    · subst hport
      have hr := hof State.ring
      exact (congrArg Ring.toIssue hr).symm.trans (granted_ring_toIssue (s.issue .ring q ref) ref)
    · subst hport
      refine (hof State.ring).symm.trans ?_
      cases ref <;> first | exact absurd rfl hne | rfl
    · subst hport
      refine (hof State.recovery).symm.trans ?_
      cases ref <;> first | exact absurd rfl hne | rfl
    · subst hport
      have hrequest : s.releaseRequest w = some (q, ref) := by
        have hpresents : s.presents .release = s.release.presented.bind s.releaseRequest := rfl
        rw [hpresents, hw] at hp
        exact hp
      refine ⟨hrequest, (hof State.release).symm.trans ?_⟩
      have href := releaseRequest_ref hrequest
      have hgranted : (s.issue .release q ref).granted .release ref = (s.issue .release q ref).releaseGranted w := by
        cases w <;> rw [href] <;> rfl
      rw [hgranted]
      exact releaseGranted_release (s.issue .release q ref) w

end Sys2Proof.Proofs.Grants

namespace Sys2Proof.Proofs.Releases
open Sys2Proof Sys2Proof.Machine Sys2Proof.Proofs.Answers Sys2Proof.Proofs.RecoveryEnd

/-! ### The ready write (R124, R125) -/

/-- A releasing context whose next line write is ready, behind contexts of which all line writes are issued (R125). -/
def LineReady (count : ContextIx → Nat) (before : List Progress) (p : Progress) : Prop :=
  p.issued < count p.context ∧ ∀ b ∈ before, count b.context ≤ b.issued

/-- A releasing context whose marker write is ready (R125). -/
def MarkerReady (count : ContextIx → Nat) (before : List Progress) (p : Progress) : Prop :=
  p.issued = count p.context ∧ p.acked = count p.context ∧ p.markerIssued = false ∧ ∀ b ∈ before, b.markerIssued = true

/-- What is left of the search for the ready write behind contexts that have none: whether all of them have issued their lines,
and whether all have issued their marker write. -/
def linesDone (count : ContextIx → Nat) (l : List Progress) : Bool := l.all fun b => decide (count b.context ≤ b.issued)

def markersDone (l : List Progress) : Bool := l.all Progress.markerIssued

/-- Contexts with no ready write, where none stands before them that keeps theirs back. -/
def NoneReady (count : ContextIx → Nat) (before : List Progress) (l : List Progress) : Prop :=
  ∀ pre p post, l = pre ++ p :: post → ¬LineReady count (before ++ pre) p ∧ ¬MarkerReady count (before ++ pre) p

theorem linesDone_iff {count : ContextIx → Nat} {l : List Progress} :
    linesDone count l = true ↔ ∀ b ∈ l, count b.context ≤ b.issued := by
  simp [linesDone]

theorem markersDone_iff {l : List Progress} : markersDone l = true ↔ ∀ b ∈ l, b.markerIssued = true := by
  simp [markersDone]

theorem linesDone_snoc (count : ContextIx → Nat) (l : List Progress) (p : Progress) :
    linesDone count (l ++ [p]) = (linesDone count l && decide (count p.context ≤ p.issued)) := by
  simp [linesDone]

theorem markersDone_snoc (l : List Progress) (p : Progress) : markersDone (l ++ [p]) = (markersDone l && p.markerIssued) := by
  simp [markersDone]

/-- One step of the search past a context without a ready write. -/
theorem readyWrite_of_notReady {count : ContextIx → Nat} {before : List Progress} {p : Progress} (ps : List Progress)
    (hline : ¬LineReady count before p) (hmarker : ¬MarkerReady count before p) :
    readyWrite count (p :: ps) (linesDone count before) (markersDone before) =
      readyWrite count ps (linesDone count (before ++ [p])) (markersDone (before ++ [p])) := by
  rw [linesDone_snoc, markersDone_snoc]
  refine (if_neg fun h => hline ?_).trans (if_neg fun h => hmarker ?_)
  · rw [Bool.and_eq_true, linesDone_iff, decide_eq_true_eq] at h
    exact ⟨h.2, h.1⟩
  · simp only [Bool.and_eq_true, markersDone_iff, decide_eq_true_eq, Bool.not_eq_true'] at h
    obtain ⟨⟨⟨hbefore, hissued⟩, hacked⟩, hnot⟩ := h
    exact ⟨hissued, hacked, hnot, hbefore⟩

theorem noneReady_cons {count : ContextIx → Nat} {before : List Progress} {p : Progress} {ps : List Progress}
    (h : NoneReady count before (p :: ps)) :
    (¬LineReady count before p ∧ ¬MarkerReady count before p) ∧ NoneReady count (before ++ [p]) ps := by
  refine ⟨by simpa using h [] p ps rfl, fun pre q post hps => ?_⟩
  have := h (p :: pre) q post (by rw [hps, List.cons_append])
  rwa [List.append_cons] at this

/-- The search passes over contexts without a ready write. -/
theorem readyWrite_append {count : ContextIx → Nat} (rest : List Progress) : ∀ (l before : List Progress),
    NoneReady count before l → readyWrite count (l ++ rest) (linesDone count before) (markersDone before) =
      readyWrite count rest (linesDone count (before ++ l)) (markersDone (before ++ l)) := by
  intro l
  induction l with
  | nil => intro before _; simp
  | cons p l ih =>
    intro before h
    obtain ⟨⟨hline, hmarker⟩, hl⟩ := noneReady_cons h
    rw [List.cons_append, readyWrite_of_notReady _ hline hmarker, ih _ hl, List.append_assoc]
    rfl

theorem readyWrite_of_lineReady {count : ContextIx → Nat} {before : List Progress} {p : Progress} (ps : List Progress)
    (h : LineReady count before p) :
    readyWrite count (p :: ps) (linesDone count before) (markersDone before) = some (.line p.context) := by
  refine if_pos ?_
  rw [linesDone_iff.mpr h.2, decide_eq_true h.1]
  rfl

theorem readyWrite_of_markerReady {count : ContextIx → Nat} {before : List Progress} {p : Progress} (ps : List Progress)
    (h : MarkerReady count before p) :
    readyWrite count (p :: ps) (linesDone count before) (markersDone before) = some (.marker p.context) := by
  obtain ⟨hissued, hacked, hnot, hbefore⟩ := h
  refine (if_neg ?_).trans (if_pos ?_)
  · simp [hissued]
  · rw [markersDone_iff.mpr hbefore, hnot, decide_eq_true hissued, decide_eq_true hacked]
    rfl

/-- The progress of a releasing context is the one of its place in the set (R121). -/
theorem progress_eq {s : State} {before after : List Progress} {p : Progress}
    (hnodup : (s.release.releasing.map Progress.context).Nodup) (hset : s.release.releasing = before ++ p :: after) :
    s.progress p.context = some p := by
  unfold State.progress
  rw [hset] at hnodup ⊢
  rw [List.map_append, List.map_cons, List.nodup_append] at hnodup
  obtain ⟨-, -, hdisjoint⟩ := hnodup
  rw [List.find?_append, List.find?_eq_none.mpr fun b hb => ?_, Option.none_or, List.find?_cons_of_pos (by simp)]
  simpa using hdisjoint b.context (List.mem_map_of_mem hb) p.context (List.mem_cons_self ..)

/-- Settles O38: the search stops at the first context with a ready write, and the write is the next of its slot list or its
marker. -/
theorem markerFollowsAcknowledgedLines : Obligations.MarkerFollowsAcknowledgedLines := by
  unfold Obligations.MarkerFollowsAcknowledgedLines
  intro s hactive hnone hnodup lineReady markerReady idle
  have hpresent : s.presentRelease =
      { s with release := { s.release with presented := readyWrite s.entryCount s.release.releasing true true } } :=
    if_pos (by simp [hactive, hnone])
  have hidle {set : List Progress} (h : idle set) : NoneReady s.entryCount [] set := fun pre p post hset => h pre p post hset
  refine ⟨fun h => ?_, fun before p after hset hbefore => ⟨fun hready => ?_, fun hready => ?_⟩⟩
  · have hready : readyWrite s.entryCount s.release.releasing true true = none := by
      have := readyWrite_append [] s.release.releasing [] (hidle h)
      rw [List.append_nil] at this
      exact this
    rw [hpresent, hready, ← hnone]
  · have hfound : readyWrite s.entryCount s.release.releasing true true = some (.line p.context) := by
      rw [hset]
      exact (readyWrite_append (p :: after) before [] (hidle hbefore)).trans (readyWrite_of_lineReady after hready)
    have hlt : p.issued < (s.slotList p.context).length := hready.1
    rw [hpresent, hfound]
    refine ⟨(s.slotList p.context)[p.issued], List.getElem?_eq_getElem hlt, rfl, ?_⟩
    show s.releaseRequest (.line p.context) = _
    unfold State.releaseRequest
    simp only [progress_eq hnodup hset, List.getElem?_eq_getElem hlt, Option.map_some]
  · have hfound : readyWrite s.entryCount s.release.releasing true true = some (.marker p.context) := by
      rw [hset]
      exact (readyWrite_append (p :: after) before [] (hidle hbefore)).trans (readyWrite_of_markerReady after hready)
    rw [hpresent, hfound]
    refine ⟨rfl, fun o f m pl hctx => ?_⟩
    show s.releaseRequest (.marker p.context) = _
    unfold State.releaseRequest
    simp only [hctx]
    rfl

/-! ### Retirement (R110, R127, R128, R129) -/

/-- The retired tail past a record, and past the pad it reaches (R110). -/
theorem retire_eq (g : Ring) (size interval o n : Nat) (q : Word64) :
    let past := if o + n = size then 0 else o + n
    let count := min 64 (g.retirements + 1)
    let moved := { g with
      retiredOffset := past, retiredSequence := q + 1, unanchored := g.unanchored + n, retirements := count
      again := g.again || (g.update ≠ .idle && g.retirements < interval && interval ≤ count) }
    g.retire size interval o n q = match g.pendingPad with
      | some pad => if pad.offset = past then
          { moved with retiredOffset := 0, unanchored := g.unanchored + n + pad.length, pendingPad := none } else moved
      | none => moved := by
  intro past count moved
  have hcount : (if g.retirements < 64 then g.retirements + 1 else 64) = min 64 (g.retirements + 1) := by
    split <;> omega
  unfold Ring.retire
  simp only [hcount]
  rfl

theorem retire_unanchored (g : Ring) (size interval o n : Nat) (q : Word64) (hn : 0 < n) :
    (g.retire size interval o n q).unanchored ≠ 0 := by
  rw [retire_eq]
  cases g.pendingPad with
  | none => exact Nat.ne_of_gt (Nat.add_pos_right _ hn)
  | some pad =>
    by_cases hpast : pad.offset = if o + n = size then 0 else o + n
    · exact (congrArg (Ring.unanchored · ≠ 0) (if_pos hpast)).mpr (Nat.ne_of_gt (Nat.add_pos_left (Nat.add_pos_right _ hn) _))
    · exact (congrArg (Ring.unanchored · ≠ 0) (if_neg hpast)).mpr (Nat.ne_of_gt (Nat.add_pos_right _ hn))

theorem startChecked_unanchored (g : Ring) (m : Mode) (k : Nat) : (g.startChecked m k).unanchored = g.unanchored := by
  unfold Ring.startChecked
  split <;> rfl

/-- The state of a retirement before the head is evaluated again (R110, R128). -/
def retiredState (s : State) (c : ContextIx) (o : Owner) (pl : RecordPlace) (rest : List Progress) : State :=
  { s with
    contexts := s.contexts.set c .free
    hold := s.hold.filter fun h => h.owner ≠ c
    release := { s.release with
      releasing := rest
      presented := s.release.presented.or
        (readyWrite (State.entryCount { s with hold := s.hold.filter fun h => h.owner ≠ c }) rest true true) }
    events := (if (s.window o.window).retiredEvent then
      s.push (.txnRetired c o.initiator o.window pl.sequence (s.entryCount c)) else s).events
    ring := Ring.startChecked (s.ring.retire s.ringSize s.settings.anchorInterval pl.offset (recordLength (s.entryCount c))
      pl.sequence) s.mode s.settings.anchorInterval }

theorem pushIf_eq_of_events {s t : State} (e : Bool) (b : EventBody) (he : t.events = s.events) (ht : t.timebase = s.timebase) :
    t.pushIf e b = { t with events := (if e then s.push b else s).events } := by
  unfold State.pushIf
  cases e with
  | false =>
    show t = { t with events := s.events }
    rw [← he]
  | true => exact push_eq_of_events b he ht

/-- A retirement, in full: the drain check finds bytes unanchored, and only the head is left to evaluate (R128, R129, R183). -/
theorem retire_state {s : State} {c : ContextIx} {o : Owner} {f : Bool} {m : CommitMarker} {pl : RecordPlace} (rest : List Progress)
    (hactive : s.release.active = true) (hctx : s.ctx c = .releasing o f m pl) : s.retire c rest =
      if firstComplete rest then retiredState s c o pl rest else (retiredState s c o pl rest).reevaluate := by
  let moved : State := { s with
    hold := s.hold.filter fun h => h.owner ≠ c
    ring := Ring.startChecked (s.ring.retire s.ringSize s.settings.anchorInterval pl.offset (recordLength (s.entryCount c))
      pl.sequence) s.mode s.settings.anchorInterval }
  have hmoved : State.startUpdate { s.dropSlots c with ring :=
      ((s.dropSlots c).ring.retire s.ringSize s.settings.anchorInterval pl.offset (recordLength (s.entryCount c)) pl.sequence) } = moved := State.startUpdate_eq _
  have hpushed := pushIf_eq_of_events (s := s) (t := moved) (s.window o.window).retiredEvent
    (.txnRetired c o.initiator o.window pl.sequence (s.entryCount c)) rfl rfl
  let freed : State := { moved with
    contexts := s.contexts.set c .free
    release := { s.release with releasing := rest }
    events := (if (s.window o.window).retiredEvent then
      s.push (.txnRetired c o.initiator o.window pl.sequence (s.entryCount c)) else s).events }
  have hdrain : freed.drainCheck = freed := by
    refine State.drainCheck_of_unanchored ?_
    show (Ring.startChecked _ _ _).unanchored ≠ 0
    rw [startChecked_unanchored]
    exact retire_unanchored _ _ _ _ _ _ (by unfold recordLength; omega)
  have hpresent : freed.presentRelease = retiredState s c o pl rest := presentRelease_of_active hactive
  unfold State.retire
  simp only [hctx, hmoved, hpushed]
  rw [← hpresent, ← hdrain]
  rfl

/-- A head in no wait that a slot ends is left to its own evaluation (R129). -/
theorem reevaluate_of_not {s : State} (h : ∀ w, s.ingress.wait = some w → w.onSlotFree = false) : s.reevaluate = s := by
  unfold State.reevaluate
  cases hw : s.ingress.wait with
  | none => rfl
  | some w =>
    exact if_neg (by simp [h w hw])

theorem reevaluate_of_slotWait {s : State} {w : HeadWait} (hw : s.ingress.wait = some w) (h : w.onSlotFree = true) :
    s.reevaluate = State.evaluateHead { s with ingress := { s.ingress with wait := none } } := by
  unfold State.reevaluate
  simp only [hw, if_pos h]
  rw [State.endWait_eq, hw]
  simp only [Option.filter, h]
  rfl

theorem firstComplete_iff (rest : List Progress) :
    firstComplete rest = true ↔ ∃ q more, rest = q :: more ∧ q.markerAcked = true := by
  cases rest with
  | nil => simp [firstComplete]
  | cons q more => simp [firstComplete]

/-- Settles O40: the first releasing context retires by R128, and the head is evaluated where R129 says. -/
theorem firstCompleteContextRetires : Obligations.FirstCompleteContextRetires := by
  unfold Obligations.FirstCompleteContextRetires
  refine ⟨fun s hnot => congrArg Host.Outcome.next ?_, fun s p rest o f m pl hactive hset hacked hctx => ?_⟩
  · unfold State.retireFirst
    obtain h | h | ⟨p, rest, h, hp⟩ := hnot
    · cases s.release.releasing with
      | nil => rfl
      | cons p rest => exact if_neg (by simp [h])
    · rw [h]
    · rw [h]
      exact if_neg (by simp [hp])
  · intro c n past count hold moved retired runs
    have hretired : retiredState s c o pl rest = retired := by
      unfold retiredState
      rw [retire_eq] <;> rfl
    have hfirst : s.retireFirst = s.retire c rest := by
      unfold State.retireFirst
      rw [hset]
      exact if_pos (by simp [hactive, hacked])
    have hretire := (hfirst.trans (retire_state rest hactive hctx))
    rw [hretired] at hretire
    refine ⟨fun hnone => congrArg Host.Outcome.next (hretire.trans ?_), fun w hw hmode hruns =>
      congrArg Host.Outcome.next (hretire.trans ?_)⟩
    · by_cases hruns : firstComplete rest = true
      · exact if_pos hruns
      · refine (if_neg hruns).trans (reevaluate_of_not fun w hw => ?_)
        have hwait : s.ingress.wait = some w := hw
        obtain h | ⟨held, h⟩ | h := hnone
        · rw [h] at hwait; cases hwait
        · rw [h] at hwait; cases hwait; rfl
        · exact absurd ((firstComplete_iff rest).mpr h) hruns
    · refine (if_neg (mt (firstComplete_iff rest).mp hruns)).trans (reevaluate_of_slotWait (w := w) hw ?_)
      cases w with
      | mode held => exact absurd rfl (hmode held)
      | _ => rfl

end Sys2Proof.Proofs.Releases
end

section
/-! PROOF. The warm reset, the end of an anchor update, and the recovery engine's way from the anchors to the closing update. -/

namespace Sys2Proof.Proofs.RecoveryPath
open Sys2Proof Sys2Proof.Machine Sys2Proof.Proofs.AnchorStart Sys2Proof.Proofs.Answers Sys2Proof.Proofs.Faults

/-! ### The closing update asked for (R120, R155, R157) -/

/-- CLOSE with its closing update asked for (R120, R157). -/
theorem enterClose_eq (s : State) (k : Close) : s.enterClose k = { s with
    recovery := ⟨.close k, []⟩
    ring := s.ring.closingAsked (!k.format) k.endOffset k.endSequence } := by
  unfold State.enterClose State.askClosing Ring.closingAsked
  cases k.format <;> rfl

theorem endScan_eq (s : State) (k : Scan) : s.endScan k = s.scanOver k := by
  unfold State.endScan State.scanOver
  rw [enterClose_eq]
  rfl

/-! ### The choice of the anchor (R150, R151) -/

/-- The choice of R150 by validity and generation. -/
theorem chooseAnchor_eq {p q : List Byte} {log2 : Nat} {base : Addr} {k : ChosenAnchor}
    (h : k = anchorFields .a p ∧ anchorValid p log2 base = true ∧ (anchorValid q log2 base = true → field q 8 8 ≤ field p 8 8) ∨
      k = anchorFields .b q ∧ anchorValid q log2 base = true ∧ (anchorValid p log2 base = true → field p 8 8 < field q 8 8)) :
    chooseAnchor p q log2 base = some k := by
  unfold chooseAnchor
  obtain ⟨rfl, hp, hq⟩ | ⟨rfl, hq, hp⟩ := h
  · rw [hp]
    cases hvalid : anchorValid q log2 base with
    | false => rfl
    | true => exact if_neg (Nat.not_lt.mpr (hq hvalid))
  · rw [hq]
    cases hvalid : anchorValid p log2 base with
    | false => rfl
    | true => exact if_pos (hp hvalid)

theorem chooseAnchor_of_none {p q : List Byte} {log2 : Nat} {base : Addr} (hp : ¬anchorValid p log2 base = true)
    (hq : ¬anchorValid q log2 base = true) : chooseAnchor p q log2 base = none := by
  unfold chooseAnchor
  rw [Bool.not_eq_true] at hp hq
  rw [hp, hq]

/-- Settles O43: the data is kept until both copies are there, and then R150's table chooses. -/
theorem anchorsJudgedWhenBothAreRead : Obligations.AnchorsJudgedWhenBothAreRead := by
  unfold Obligations.AnchorsJudgedWhenBothAreRead
  intro s tag e data copy format x y hentry href hkind hphase taken a b
  have hexec := exec_responseCommand (r := .ack data) hentry (by simp [hkind])
  unfold State.deliver at hexec
  rw [href] at hexec
  have hanswer : taken.anchorReadAnswer copy e.address (.ack data) = match a, b with
      | some p, some q => taken.judgeAnchors format p q
      | _, _ => { taken with recovery := { s.recovery with phase := .anchors format a b } } := by
    unfold State.anchorReadAnswer
    rw [show taken.recovery.phase = _ from hphase]
    cases copy <;> rfl
  refine ⟨fun hmissing => hexec.trans (congrArg Host.Outcome.next (hanswer.trans ?_)), fun p q ha hb => ?_⟩
  · obtain h | h := hmissing
    · rw [h]
    · rw [h]
      cases a <;> rfl
  · have hjudge : exec (.anchorReadResponse tag (.ack data)) s = .next (taken.judgeAnchors format p q) := by
      refine hexec.trans (congrArg Host.Outcome.next (hanswer.trans ?_))
      rw [ha, hb]
    intro valid chosen
    refine ⟨fun k hk hformat => hjudge.trans ?_, fun k hk hformat => hjudge.trans ?_, fun hp hq hformat => hjudge.trans ?_⟩ <;>
      refine congrArg Host.Outcome.next ?_ <;> unfold State.judgeAnchors <;> rw [hformat]
    · rw [show chooseAnchor p q taken.settings.ringSizeLog2 taken.settings.journalBase = _ from chooseAnchor_eq hk]
      rfl
    · rw [show chooseAnchor p q taken.settings.ringSizeLog2 taken.settings.journalBase = _ from chooseAnchor_eq hk]
      exact enterClose_eq _ _
    · rw [show chooseAnchor p q taken.settings.ringSizeLog2 taken.settings.journalBase = _ from chooseAnchor_of_none hp hq]
      rfl

/-! ### The scan (R152–R156) -/

/-- The READs of the rest of a record, 256 bytes each (R154). -/
theorem bodyReads_eq (s : State) (o n : Nat) : ∀ m start : Nat, (n - start + 255) / 256 ≤ m → s.bodyReads o n m start =
    (List.range ((n - start + 255) / 256)).map fun i =>
      (DownRequest.read (s.ringAddr (o + (start + 256 * i))) (min 256 (n - (start + 256 * i))), Ref.bodyRead (start + 256 * i)) := by
  intro m
  induction m with
  | zero =>
    intro start hm
    rw [Nat.le_zero.mp hm]
    rfl
  | succ m ih =>
    intro start hm
    by_cases hlt : start < n
    · have hcount : (n - start + 255) / 256 = (n - (start + 256) + 255) / 256 + 1 := by omega
      refine (if_pos hlt).trans ?_
      show _ :: s.bodyReads o n m (start + 256) = _
      rw [ih (start + 256) (by omega), hcount, List.range_succ_eq_map, List.map_cons, List.map_map]
      refine congrArg₂ List.cons rfl (List.map_congr_left fun i _ => ?_)
      have hshift : start + 256 + 256 * i = start + 256 * (i + 1) := by omega
      simp only [Function.comp_apply, Nat.succ_eq_add_one, hshift]
    · refine (if_neg hlt).trans ?_
      rw [show (n - start + 255) / 256 = 0 by omega]
      rfl

theorem replayWrites_eq (record : List Byte) (n : Nat) : replayWrites record n = (List.range n).map (replayWrite record) := by
  induction n with
  | zero => rfl
  | succ n ih => rw [List.range_succ, List.map_append, ← ih]; rfl

/-- The entry writes of a valid record in entry order (R156). -/
theorem beginReplay_eq (s : State) (k : Scan) : s.beginReplay k = { s with recovery :=
    ⟨.scan { k with step := .entries (field k.buffer 18 2), unanswered := k.unanswered + field k.buffer 18 2 },
      (List.range (field k.buffer 18 2)).map fun i => (replayWrite k.buffer i, .replayEntry)⟩ } := by
  unfold State.beginReplay
  simp only [replayWrites_eq, List.map_map]
  rfl

theorem headerPasses_iff (header : List Byte) (epoch : Word32) (expected : Word64) (o scanned size : Nat) :
    headerPasses header epoch expected o scanned size = true ↔
      field header 4 4 = epoch.toNat ∧ field header 8 8 = expected.toNat ∧ 1 ≤ field header 18 2 ∧ field header 18 2 ≤ 256 ∧
        field header 20 4 = recordLength (field header 18 2) ∧ o + field header 20 4 ≤ size ∧ scanned + field header 20 4 ≤ size ∧
        field header 16 1 < 8 := by
  simp only [headerPasses, Bool.and_eq_true, decide_eq_true_eq, and_assoc]

theorem trailerPasses_iff (record : List Byte) : trailerPasses record = true ↔
    field record (64 + 80 * field record 18 2) 4 = Config.trailerMagic ∧
      field record (64 + 80 * field record 18 2 + 8) 8 = field record 8 8 ∧
      field record (64 + 80 * field record 18 2 + 4) 4 = field record 20 4 ∧
      field record (64 + 80 * field record 18 2 + 16) 4 = (crc32 (record.take (64 + 80 * field record 18 2))).toNat := by
  simp only [trailerPasses, Bool.and_eq_true, decide_eq_true_eq, and_assoc]

/-- What the 16 bytes at the scan offset lead to (R152, R153, R154). -/
theorem scanItem_of_pad {s : State} {k : Scan} {item : List Byte} (hmagic : field item 0 4 = Config.padMagic)
    (hpad : padFollowed item k.expected k.offset k.scanned s.ringSize = true) :
    s.scanItem k item = s.examine { k with offset := 0, scanned := k.scanned + field item 4 4 } :=
  (if_pos hmagic).trans (if_pos hpad)

theorem scanItem_of_record {s : State} {k : Scan} {item : List Byte} (hmagic : field item 0 4 = Config.recordMagic)
    (hroom : k.offset + 64 ≤ s.ringSize) : s.scanItem k item = { s with recovery := {
      phase := .scan { k with step := .header, buffer := item }
      toIssue := [(.read (s.ringAddr (k.offset + 16)) 48, .headerRead)] } } :=
  (if_neg (by rw [hmagic]; decide)).trans (if_pos ⟨hmagic, hroom⟩)

theorem scanItem_of_neither {s : State} {k : Scan} {item : List Byte}
    (hpad : ¬(field item 0 4 = Config.padMagic ∧ padFollowed item k.expected k.offset k.scanned s.ringSize = true))
    (hrecord : ¬(field item 0 4 = Config.recordMagic ∧ k.offset + 64 ≤ s.ringSize)) : s.scanItem k item = s.endScan k := by
  unfold State.scanItem
  by_cases hmagic : field item 0 4 = Config.padMagic
  · exact (if_pos hmagic).trans (if_neg fun h => hpad ⟨hmagic, h⟩)
  · exact (if_neg hmagic).trans (if_neg hrecord)

theorem padFollowed_iff (item : List Byte) (expected : Word64) (o scanned size : Nat) :
    padFollowed item expected o scanned size = true ↔
      field item 8 8 = expected.toNat ∧ field item 4 4 = size - o ∧ scanned + field item 4 4 ≤ size := by
  simp only [padFollowed, Bool.and_eq_true, decide_eq_true_eq, and_assoc]

/-- Settles O44: the 16 bytes, the header and the body, each judged as R153 and R154 say. -/
theorem scanFollowsOnlyTheNextItem : Obligations.ScanFollowsOnlyTheNextItem := by
  unfold Obligations.ScanFollowsOnlyTheNextItem
  intro s tag e data k hentry hkind hphase taken size
  have hexec := exec_responseCommand (r := .ack data) hentry (by simp [hkind])
  unfold State.deliver at hexec
  have hscan : taken.recovery.phase = .scan k := hphase
  refine ⟨fun href hstep => ?_, fun href hstep => ?_, fun o missing href hstep => ?_⟩ <;> rw [href] at hexec
  · intro pad record
    have hanswer : taken.scanAnswer .scanRead e.address (.ack data) = taken.scanItem k data := by
      unfold State.scanAnswer
      rw [hscan]
      simp only [hstep]
    have hpad : (field data 0 4 = Config.padMagic ∧
        padFollowed data k.expected k.offset k.scanned taken.ringSize = true) ↔ pad := by
      rw [padFollowed_iff]
      exact Iff.rfl
    refine ⟨fun h => ?_, fun h => ?_, fun hp hr => ?_⟩ <;> refine hexec.trans (congrArg Host.Outcome.next (hanswer.trans ?_))
    · obtain ⟨hmagic, hfollowed⟩ := hpad.mpr h
      exact scanItem_of_pad hmagic hfollowed
    · exact scanItem_of_record h.1 h.2
    · exact (scanItem_of_neither (mt hpad.mp hp) hr).trans (endScan_eq _ _)
  · intro header n length passes reads
    have hanswer : taken.scanAnswer .headerRead e.address (.ack data) = taken.scanHeader k data := by
      unfold State.scanAnswer
      rw [hscan]
      simp only [hstep]
    have hpasses := headerPasses_iff header k.chosen.epoch k.expected k.offset k.scanned taken.ringSize
    refine ⟨fun h => ?_, fun h => ?_⟩ <;> refine hexec.trans (congrArg Host.Outcome.next (hanswer.trans ?_))
    · have hreads : taken.bodyReads k.offset length length 64 = reads := bodyReads_eq taken k.offset length length 64 (by omega)
      refine (if_pos (hpasses.mpr h)).trans ?_
      simp only [← hreads]
      rfl
    · exact (if_neg (mt hpasses.mp h)).trans (endScan_eq _ _)
  · intro buffer n trailer valid
    have hanswer : taken.scanAnswer (.bodyRead o) e.address (.ack data) = taken.scanBody k missing o data := by
      unfold State.scanAnswer
      rw [hscan]
      simp only [hstep]
    have hvalid := trailerPasses_iff buffer
    refine ⟨fun hmore => ?_, fun hlast h => ?_, fun hlast h => ?_⟩ <;>
      refine hexec.trans (congrArg Host.Outcome.next (hanswer.trans ?_))
    · exact if_neg (by omega)
    · exact (if_pos hlast).trans ((if_pos (hvalid.mpr h)).trans (beginReplay_eq _ _))
    · exact (if_pos hlast).trans ((if_neg (mt hvalid.mp h)).trans (endScan_eq _ _))

/-! ### Replay (R156, R157) -/

/-- Settles O45: the answers to replay and zeroing writes, and the grant of a marker write. -/
theorem replayLeadsToTheClosingUpdate : Obligations.ReplayLeadsToTheClosingUpdate := by
  unfold Obligations.ReplayLeadsToTheClosingUpdate
  refine ⟨fun s tag e data hentry hkind => ?_, fun s before after q rest k hroom hring hbefore hissue hphase => ?_⟩
  · intro taken answered
    have hexec := exec_responseCommand (r := .ack data) hentry (by simp [hkind])
    unfold State.deliver at hexec
    refine ⟨fun k left href hphase hstep => ?_, fun k href hphase => ?_, fun k href hphase => ?_⟩ <;> rw [href] at hexec
    · have hanswer : taken.replayEntryAnswer e.address (.ack data) =
          if left ≤ 1 then taken.presentReplayMarker { k with unanswered := k.unanswered - 1 }
          else { taken with recovery := { taken.recovery with
            phase := .scan { k with unanswered := k.unanswered - 1, step := .entries (left - 1) } } } := by
        unfold State.replayEntryAnswer
        rw [show taken.recovery.phase = _ from hphase]
        simp only [hstep]
      exact ⟨fun hmore => hexec.trans (congrArg Host.Outcome.next (hanswer.trans (if_neg (by omega)))),
        fun hlast => hexec.trans (congrArg Host.Outcome.next (hanswer.trans (if_pos hlast)))⟩
    · intro counted
      have hanswer : taken.replayMarkerAnswer e.address (.ack data) = match k.step with
          | .ended => taken.endScan counted
          | _ => { taken with recovery := { taken.recovery with phase := .scan counted } } := by
        unfold State.replayMarkerAnswer
        rw [show taken.recovery.phase = _ from hphase] <;> rfl
      refine ⟨fun hnot => hexec.trans (congrArg Host.Outcome.next (hanswer.trans ?_)),
        fun hended => hexec.trans (congrArg Host.Outcome.next (hanswer.trans ?_))⟩
      · cases hstep : k.step <;> first | exact absurd hstep hnot | rfl
      · rw [hended]
        exact endScan_eq _ _
    · have hanswer : taken.zeroAnswer e.address (.ack data) =
          if k.zeroing ≤ 1 then taken.enterClose { k with zeroing := 0 }
          else { taken with recovery := { taken.recovery with phase := .close { k with zeroing := k.zeroing - 1 } } } := by
        unfold State.zeroAnswer
        rw [show taken.recovery.phase = _ from hphase]
      exact ⟨fun hmore => hexec.trans (congrArg Host.Outcome.next (hanswer.trans (if_neg (by omega)))),
        fun hlast => hexec.trans (congrArg Host.Outcome.next (hanswer.trans ((if_pos hlast).trans (enterClose_eq _ _))))⟩
  · intro n past
    have hpresents : s.presents .recovery = some (q, .replayMarker) := congrArg List.head? hissue
    refine ⟨_, exec_arbiterGrant_of_presents hroom hring hbefore hpresents, ?_⟩
    show (State.passRecord { s.issue .recovery q .replayMarker with
      recovery := { s.recovery with toIssue := s.recovery.toIssue.tail } }).recovery = _
    unfold State.passRecord
    simp only [hphase]
    rfl

/-! ### The warm reset (R41, R146, R147, R148) -/

theorem unflushed_stopWriter (s : State) : s.stopWriter.unflushed = s.unflushed := by
  unfold State.unflushed State.stopWriter
  simp only [List.map_map]
  congr 1
  · cases s.writer.flight <;> rfl

/-- The first step of a warm reset, in full (R146). -/
theorem beginWarmReset_eq (s : State) : ∃ contexts : Vector Context 16,
    (∀ x : ContextIx, contexts[x] = (s.ctx x).atWarmReset) ∧ s.beginWarmReset = { s with
      mode := .recovering
      events := (s.push (.modeChange .recovering s.mode)).events
      contexts := contexts
      bindings := []
      upOut := s.upOut ++ s.ingress.queue.map (fun r => ⟨requesterOf r, .refused .reset⟩) ++
        s.writer.commitQueue.filterMap s.resetAnswer?
      inDoubt := s.inDoubt ++ s.unflushed.filterMap s.inDoubt?
      ingress := { s.ingress with
        queue := [], wait := none, timer := none, walk := none
        handOver := s.ingress.handOver.map fun h => { h with beforeReset := true } }
      writer := { s.writer with
        active := false
        openBatch := s.writer.openBatch.map fun b => { b with toIssue := [] }
        flight := s.writer.flight.map fun f => { f with presented := false } }
      ring := stoppedRing s.ring
      release := { s.release with active := false, presented := none }
      recovery := ⟨.quiesce, []⟩ } := by
  refine ⟨Vector.ofFn fun c => (s.ctx c).atWarmReset, fun x => by simp, ?_⟩
  have hmode : s.setMode .recovering = { s with
      mode := .recovering, events := (s.push (.modeChange .recovering s.mode)).events } := by
    unfold State.setMode
    rw [State.push_eq]
  have hunflushed := unflushed_stopWriter s
  unfold State.beginWarmReset
  rw [hmode, ← hunflushed]
  rfl

theorem quiesced_iff (s : State) : s.quiesced = true ↔ s.recovery.phase = .quiesce ∧ s.downstream.outstanding = [] ∧
    ∀ h ∈ s.ingress.handOver, h.beforeReset = false := by
  simp only [State.quiesced, Bool.and_eq_true, decide_eq_true_eq, List.all_eq_true, Bool.not_eq_true', and_assoc]

/-- Settles O42: the accepted CONTROL write carries out the stopping step, and the clearing step waits for the end of QUIESCE. -/
theorem warmResetStopsThenClears : Obligations.WarmResetStopsThenClears := by
  unfold Obligations.WarmResetStopsThenClears
  refine ⟨fun c v s hword hwarm hstart hirq hinit hrecovering => ?_, fun s => ?_⟩
  · intro set
    obtain ⟨contexts, hctx, hreset⟩ := beginWarmReset_eq set
    have hboth : ((v.getLsbD 0 && v.getLsbD 2) || (v.getLsbD 4 && v.getLsbD 5)) = false := by rw [hstart, hirq]; rfl
    have hstatus : s.controlStatus v = .ok := by
      refine (Registers.controlStatus_of_notBusy hboth ?_).trans (if_neg (by rw [hstart]; simp))
      rintro (⟨h, -⟩ | ⟨-, h | h⟩)
      · rw [hstart] at h; cases h
      · exact hinit h
      · exact hrecovering h
    refine ⟨contexts, hctx, (Registers.exec_of_controlWord hword s).trans (congrArg Host.Outcome.next ?_)⟩
    rw [Registers.controlWrite_of_ok hstatus, Registers.controlOverflow_controlIrq]
    unfold State.controlCommand
    rw [hstart, hwarm]
    show set.beginWarmReset.writeReply .ok = _
    rw [hreset, State.push_eq]
    rfl
  · intro ended
    exact ⟨fun h => congrArg Host.Outcome.next (if_neg (mt (quiesced_iff s).mp h)),
      fun h => congrArg Host.Outcome.next (if_pos ((quiesced_iff s).mpr h))⟩

end Sys2Proof.Proofs.RecoveryPath
end

section
/-! PROOF. The end of an anchor update, and the memory formats: what is written reads back. -/

namespace Sys2Proof.Proofs.AnchorEnd
open Sys2Proof Sys2Proof.Machine Sys2Proof.Proofs.Answers Sys2Proof.Proofs.JournalWriter Sys2Proof.Proofs.Faults

/-! ### The completion of an update (R115) -/

theorem completeUpdate_of_snapshot {s : State} {k : Snapshot} (hclosing : s.ring.closing = false)
    (hsnap : s.ring.snapshot = some k) : s.completeUpdate =
      ((State.spaceFreed { s with ring := s.ring.complete k }).drainCheck).startUpdate := by
  unfold State.completeUpdate
  rw [if_neg (by simp [hclosing]), hsnap]

theorem drainCheck_of_openBatch {s : State} (h : s.writer.openBatch ≠ []) : s.drainCheck = s :=
  State.drainCheck_of_not (Bool.eq_false_iff.mpr fun hd => by
    obtain ⟨-, -, hnil, -⟩ := (State.drainDone_iff s).mp hd
    exact h hnil)

theorem drainCheck_of_commitQueue {s : State} (h : s.writer.commitQueue ≠ []) : s.drainCheck = s :=
  State.drainCheck_of_not (Bool.eq_false_iff.mpr fun hd => by
    obtain ⟨-, hnil, -⟩ := (State.drainDone_iff s).mp hd
    exact h hnil)

theorem checkFlush_commitQueue (s : State) : s.checkFlush.writer.commitQueue = s.writer.commitQueue := by
  unfold State.checkFlush
  split <;> rfl

/-- A reservation clears the space request, whatever it was (R108). -/
theorem reserve_spaceRequest (g : Ring) (size n : Nat) (x : Grant) :
    Ring.reserve { g with spaceRequest := false } size n x = g.reserve size n x := by
  unfold Ring.reserve
  cases x.pad with
  | none => rfl
  | some p =>
    by_cases h : g.retiredSequence = g.nextSequence
    · exact (if_pos h).trans (if_pos h).symm
    · exact (if_neg h).trans (if_neg h).symm

theorem takeGranted_spaceRequest (s : State) (c : ContextIx) (o : Owner) (f : Bool) (m : CommitMarker) (p : Option Requester)
    (x : Grant) : State.takeGranted { s with ring := { s.ring with spaceRequest := false } } c o f m p x =
      s.takeGranted c o f m p x := by
  unfold State.takeGranted
  simp only [reserve_spaceRequest]
  rfl

/-- What the start of an update, a reservation and a refusal leave of the anchor's part of the ring manager (R106). -/
structure SameAnchor (g h : Ring) : Prop where
  offset : h.durableOffset = g.durableOffset
  sequence : h.durableSequence = g.durableSequence
  generation : h.generation = g.generation
  copy : h.nextCopy = g.nextCopy
  snapshot : h.snapshot = g.snapshot
  update : h.update = g.update ∨ h.update = .homeFlush

theorem SameAnchor.rfl {g : Ring} : SameAnchor g g := ⟨.refl _, .refl _, .refl _, .refl _, .refl _, .inl (.refl _)⟩

theorem SameAnchor.trans {g h i : Ring} (a : SameAnchor g h) (b : SameAnchor h i) : SameAnchor g i :=
  ⟨b.offset.trans a.offset, b.sequence.trans a.sequence, b.generation.trans a.generation, b.copy.trans a.copy,
    b.snapshot.trans a.snapshot, b.update.elim (fun hb => a.update.imp hb.trans hb.trans) .inr⟩

theorem sameAnchor_startChecked (g : Ring) (m : Mode) (k : Nat) : SameAnchor g (g.startChecked m k) := by
  unfold Ring.startChecked
  split
  · exact ⟨.refl _, .refl _, .refl _, .refl _, .refl _, .inr (.refl _)⟩
  · exact .rfl

theorem sameAnchor_reserve (g : Ring) (size n : Nat) (x : Grant) : SameAnchor g (g.reserve size n x) := by
  have hsame {h : Ring} (h1 : h.durableOffset = g.durableOffset) (h2 : h.durableSequence = g.durableSequence)
      (h3 : h.generation = g.generation) (h4 : h.nextCopy = g.nextCopy) (h5 : h.snapshot = g.snapshot)
      (h6 : h.update = g.update) : SameAnchor g h := ⟨h1, h2, h3, h4, h5, .inl h6⟩
  unfold Ring.reserve
  cases x.pad with
  | none => exact hsame (.refl _) (.refl _) (.refl _) (.refl _) (.refl _) (.refl _)
  | some p =>
    by_cases h : g.retiredSequence = g.nextSequence
    · simp only [if_pos h]
      exact hsame (.refl _) (.refl _) (.refl _) (.refl _) (.refl _) (.refl _)
    · simp only [if_neg h]
      exact hsame (.refl _) (.refl _) (.refl _) (.refl _) (.refl _) (.refl _)

theorem sameAnchor_startUpdate (s : State) : SameAnchor s.ring s.startUpdate.ring := by
  rw [State.startUpdate_eq]
  exact sameAnchor_startChecked ..

theorem checkFlush_ring (s : State) : s.checkFlush.ring = s.ring := by
  unfold State.checkFlush
  split <;> rfl

theorem drainCheck_ring (s : State) : s.drainCheck.ring = s.ring := by
  by_cases h : s.drainDone = true
  · rw [State.drainCheck_of_done h, pushAll_eq]
  · rw [State.drainCheck_of_not (by simpa using h)]

theorem sameAnchor_askForSpace (s : State) (renew : Bool) : SameAnchor s.ring (s.askForSpace renew).ring := by
  unfold State.askForSpace
  cases hq : s.writer.commitQueue with
  | nil => exact .rfl
  | cons c rest =>
    cases hctx : s.ctx c with
    | queued o f m p =>
      cases hg : s.ring.grant s.ringSize (recordLength (s.entryCount c)) with
      | some g =>
        simp only [hctx, hg, checkFlush_ring]
        have htaken : SameAnchor s.ring (s.takeGranted c o f m p g).ring := sameAnchor_reserve ..
        by_cases h : s.ring.spaceRequest = true
        · rw [if_pos h]
          exact htaken.trans (sameAnchor_startUpdate _)
        · rw [if_neg h]
          exact htaken
      | none =>
        simp only [hctx, hg]
        by_cases h : (s.ring.spaceRequest && !renew) = true
        · rw [if_pos h]
          exact .rfl
        · rw [if_neg h, checkFlush_ring]
          have hrefused : SameAnchor s.ring s.ring.refuseSpace :=
            ⟨.refl _, .refl _, .refl _, .refl _, .refl _, .inl (.refl _)⟩
          exact hrefused.trans (sameAnchor_startUpdate { s with ring := s.ring.refuseSpace })
    | _ => simp only [hctx]; exact .rfl

theorem sameAnchor_spaceFreed (s : State) : SameAnchor s.ring s.spaceFreed.ring := by
  unfold State.spaceFreed
  split
  · exact sameAnchor_askForSpace ..
  · exact .rfl

/-- Settles O34: the completion, the writer's renewed request, the drain check and the start of the next update. -/
theorem anchorFlushMovesDurableTail : Obligations.AnchorFlushMovesDurableTail := by
  unfold Obligations.AnchorFlushMovesDurableTail
  intro s tag e data k hentry href hkind hupdate hclosing hsnap moved answered asks done
  have hexec : answered = .next (moved.spaceFreed.drainCheck).startUpdate := by
    have h := exec_responseCommand (r := .ack data) hentry (by simp [hkind])
    unfold State.deliver at h
    rw [href] at h
    refine h.trans (congrArg Host.Outcome.next ?_)
    have hanswer : (s.removeEntry tag).anchorFlushAnswer (.ack data) = (s.removeEntry tag).completeUpdate := by
      unfold State.anchorFlushAnswer
      rw [State.removeEntry_ring, hupdate]
    exact hanswer.trans (completeUpdate_of_snapshot (s := s.removeEntry tag) hclosing hsnap)
  have hasks : (moved.ring.spaceRequest && moved.mayTakeHead) = true ↔ asks := by
    rw [Bool.and_eq_true, mayTakeHead_iff]
  have hfreed : ¬asks → moved.spaceFreed = moved := fun h => if_neg (mt hasks.mp h)
  have hdone : moved.drainDone = true ↔ done := State.drainDone_iff moved
  refine ⟨fun hno hnot => ?_, fun hd => ?_, fun c o f m p rest hask hqueue hctx => ?_, ?_⟩
  · rw [hexec, hfreed hno, State.drainCheck_of_not (Bool.eq_false_iff.mpr (mt hdone.mp hnot)), State.startUpdate_eq]
  · have hno : ¬asks := fun h => h.2.2.2.1 hd.2.1
    rw [hexec, hfreed hno, State.drainCheck_of_done (hdone.mpr hd), State.startUpdate_eq]
    refine congrArg Host.Outcome.next ?_
    rw [Ring.startChecked_of_anchored _ _ (by rw [pushAll_eq]; exact hd.2.2.2.2.2.2)]
  · obtain ⟨hspace, hactive, hmode, hne, hroom⟩ := hask
    let cleared : State := { moved with ring := { moved.ring with spaceRequest := false } }
    have hhead : cleared.takeHead = cleared.askForSpace false :=
      if_pos ((mayTakeHead_iff cleared).mpr ⟨hactive, hmode, hne, hroom⟩)
    have hasked : moved.spaceFreed = moved.askForSpace true := if_pos (hasks.mpr ⟨hspace, hactive, hmode, hne, hroom⟩)
    cases hg : moved.ring.grant moved.ringSize (recordLength (moved.entryCount c)) with
    | some g =>
      have hcleared : cleared.askForSpace false = moved.takeGranted c o f m p g := by
        rw [askForSpace_of_granted (s := cleared) (g := g) false hqueue hctx hg, if_neg (by simp [cleared])]
        exact takeGranted_spaceRequest ..
      have hmoved : moved.askForSpace true = (moved.takeGranted c o f m p g).startUpdate := by
        rw [askForSpace_of_granted (s := moved) (g := g) true hqueue hctx hg]
        exact if_pos hspace
      have hbatch : (moved.takeGranted c o f m p g).startUpdate.writer.openBatch ≠ [] := by
        rw [State.startUpdate_eq]
        exact List.append_ne_nil_of_right_ne_nil _ (List.cons_ne_nil _ _)
      refine ⟨_, congrArg Host.Outcome.next (hhead.trans hcleared), ?_⟩
      rw [hexec, hasked, hmoved, drainCheck_of_openBatch hbatch, State.startUpdate_eq, State.startUpdate_eq]
      simp only [Ring.startChecked_startChecked]
      rfl
    | none =>
      have hcleared : cleared.askForSpace false = (State.startUpdate { moved with ring := moved.ring.refuseSpace }).checkFlush :=
        askForSpace_of_refused (s := cleared) hqueue hctx hg (by simp [cleared])
      have hmoved : moved.askForSpace true = (State.startUpdate { moved with ring := moved.ring.refuseSpace }).checkFlush :=
        askForSpace_of_refused (s := moved) hqueue hctx hg (by simp)
      have hstill : (State.startUpdate { moved with ring := moved.ring.refuseSpace }).checkFlush.writer.commitQueue ≠ [] := by
        rw [checkFlush_commitQueue, State.startUpdate_eq]
        exact hne
      have hkept : (State.startUpdate { moved with ring := moved.ring.refuseSpace }).checkFlush.mode = s.mode ∧
          (State.startUpdate { moved with ring := moved.ring.refuseSpace }).checkFlush.settings = s.settings := by
        rw [State.startUpdate_eq]
        unfold State.checkFlush
        split <;> exact ⟨rfl, rfl⟩
      refine ⟨_, congrArg Host.Outcome.next (hhead.trans hcleared), ?_⟩
      rw [hexec, hasked, hmoved, drainCheck_of_commitQueue hstill, State.startUpdate_eq, hkept.1, hkept.2]
  · have hsame : SameAnchor moved.ring (moved.spaceFreed.drainCheck).startUpdate.ring := by
      refine (sameAnchor_spaceFreed moved).trans (SameAnchor.trans ?_ (sameAnchor_startUpdate _))
      rw [drainCheck_ring]
      exact .rfl
    exact ⟨_, hexec, hsame.offset, hsame.sequence, hsame.generation, hsame.copy, hsame.update, hsame.snapshot⟩

end Sys2Proof.Proofs.AnchorEnd

namespace Sys2Proof.Proofs.MemoryFormats
open Sys2Proof Sys2Proof.Machine Sys2Proof.Proofs.RecoveryPath

/-! ### Fields of bytes laid one behind another -/

theorem field_append_left {a : List Byte} {o n : Nat} (b : List Byte) (h : o + n ≤ a.length) : field (a ++ b) o n = field a o n := by
  unfold field
  rw [List.drop_append_of_le_length (by omega), List.take_append_of_le_length (by rw [List.length_drop]; omega)]

theorem field_leBytes {n v : Nat} (h : v < 256 ^ n) : field (leBytes n v) 0 n = v := by
  have := field_leBytes_append [] h
  rwa [List.append_nil] at this

/-- The fields of an anchor's body (R105). -/
theorem anchorBody_fields (epoch : Word32) (generation : Word64) {log2 : Nat} (base : Addr) {tail : Nat} (q : Word64)
    (hlog : log2 ≤ 30) (htail : tail < 2 ^ log2) (rest : List Byte) :
    let body := anchorBody epoch generation log2 base tail q ++ rest
    field body 0 4 = Config.anchorMagic ∧ field body 4 4 = epoch.toNat ∧ field body 8 8 = generation.toNat ∧
      field body 16 1 = log2 ∧ field body 24 8 = base.toNat ∧ field body 32 8 = tail ∧ field body 40 8 = q.toNat := by
  have hsmall : tail < 256 ^ 8 := Nat.lt_of_lt_of_le htail (Nat.le_trans (Nat.pow_le_pow_right (by decide) hlog) (by decide))
  have hepoch : epoch.toNat < 256 ^ 4 := epoch.isLt
  have hgeneration : generation.toNat < 256 ^ 8 := generation.isLt
  have hbase : base.toNat < 256 ^ 8 := Nat.lt_trans base.isLt (by decide)
  have hq : q.toNat < 256 ^ 8 := q.isLt
  have hlog1 : log2 < 256 ^ 1 := by omega
  have hmagic : Config.anchorMagic < 256 ^ 4 := by decide
  simp only [anchorBody, List.append_assoc]
  refine ⟨field_leBytes_append _ hmagic, ?_, ?_, ?_, ?_, ?_, ?_⟩ <;>
    simp (disch := simp) only [field_append_right, leBytes_length, Nat.reduceSub, field_leBytes_append _ hepoch,
      field_leBytes_append _ hgeneration, field_leBytes_append _ hlog1, field_leBytes_append _ hbase,
      field_leBytes_append _ hsmall, field_leBytes_append _ hq]

theorem anchorBody_length (epoch : Word32) (generation : Word64) (log2 : Nat) (base : Addr) (tail : Nat) (q : Word64) :
    (anchorBody epoch generation log2 base tail q).length = 124 := by
  simp [anchorBody]

/-- The integrity code of an anchor lies behind its body (R105). -/
theorem anchorBytes_crc (epoch : Word32) (generation : Word64) (log2 : Nat) (base : Addr) (tail : Nat) (q : Word64) :
    let bytes := anchorBytes epoch generation log2 base tail q
    field bytes 124 4 = (crc32 (bytes.take 124)).toNat := by
  intro bytes
  have htake : bytes.take 124 = anchorBody epoch generation log2 base tail q :=
    List.take_left' (anchorBody_length epoch generation log2 base tail q)
  have hfield : field bytes 124 4 = field (leBytes 4 (crc32 (anchorBody epoch generation log2 base tail q)).toNat) 0 4 := by
    have h := field_append_right (pre := anchorBody epoch generation log2 base tail q) (o := 124)
      (leBytes 4 (crc32 (anchorBody epoch generation log2 base tail q)).toNat) 4 (by rw [anchorBody_length])
    rwa [anchorBody_length] at h
  rw [htake, hfield, field_leBytes (BitVec.isLt _)]

/-- Settles O35: the fields read back, so the copy is valid, and R150's table chooses it. -/
theorem writtenAnchorIsChosenBack : Obligations.WrittenAnchorIsChosenBack := by
  unfold Obligations.WrittenAnchorIsChosenBack
  intro copy epoch generation log2 base tail q hlog htail halign bytes chosen
  obtain ⟨hmagic, hepoch, hgeneration, hlog2, hbase, hoffset, hq⟩ := anchorBody_fields epoch generation base q hlog htail
    (leBytes 4 (crc32 (anchorBody epoch generation log2 base tail q)).toNat)
  have hvalid : anchorValid bytes log2 base = true := by
    simp only [anchorValid, Bool.and_eq_true, decide_eq_true_eq]
    exact ⟨⟨⟨⟨⟨hmagic, anchorBytes_crc ..⟩, hlog2⟩, hbase⟩, hoffset.symm ▸ htail⟩, hoffset.symm ▸ halign⟩
  have hfields (c : AnchorCopy) : anchorFields c bytes = ⟨c, generation, epoch, tail, q⟩ := by
    show (⟨c, BitVec.ofNat 64 (field bytes 8 8), BitVec.ofNat 32 (field bytes 4 4), field bytes 32 8,
      BitVec.ofNat 64 (field bytes 40 8)⟩ : ChosenAnchor) = _
    rw [show field bytes 8 8 = _ from hgeneration, show field bytes 4 4 = _ from hepoch, show field bytes 32 8 = _ from hoffset,
      show field bytes 40 8 = _ from hq]
    simp only [BitVec.ofNat_toNat, BitVec.setWidth_eq]
  refine ⟨anchorBytes_length .., hvalid, hfields copy, fun other hcopy hother => ?_, fun other hcopy hother => ?_⟩
  · subst hcopy
    refine chooseAnchor_eq (.inl ⟨(hfields .a).symm, hvalid, fun hv => ?_⟩)
    obtain h | h := hother
    · rw [h] at hv; cases hv
    · exact h.trans (Nat.le_of_eq hgeneration.symm)
  · subst hcopy
    refine chooseAnchor_eq (.inr ⟨(hfields .b).symm, hvalid, fun hv => ?_⟩)
    obtain h | h := hother
    · rw [h] at hv; cases hv
    · exact Nat.lt_of_lt_of_eq h hgeneration.symm

/-! ### Records (R85–R89, R154, R156) -/

section Record

variable (epoch : Word32) (o : Owner) (f : Bool) (m : CommitMarker) (q : Word64)

/-- The fields of a record's header (R86). -/
theorem recordHeader_fields {n : Nat} (hn : n ≤ 256) (rest : List Byte) :
    let header := recordHeader epoch o f m q n ++ rest
    field header 0 4 = Config.recordMagic ∧ field header 4 4 = epoch.toNat ∧ field header 8 8 = q.toNat ∧
      field header 16 1 = o.window.val ∧ field header 18 2 = n ∧ field header 20 4 = recordLength n ∧
      field header 40 8 = m.address.toNat ∧ field header 48 8 = m.value.toNat := by
  have hmagic : Config.recordMagic < 256 ^ 4 := by decide
  have hepoch : epoch.toNat < 256 ^ 4 := epoch.isLt
  have hq : q.toNat < 256 ^ 8 := q.isLt
  have hwindow : o.window.val < 256 ^ 1 := Nat.lt_trans o.window.isLt (by decide)
  have hcount : n < 256 ^ 2 := by omega
  have hlength : recordLength n < 256 ^ 4 := by unfold recordLength; omega
  have haddress : m.address.toNat < 256 ^ 8 := Nat.lt_trans m.address.isLt (by decide)
  have hvalue : m.value.toNat < 256 ^ 8 := m.value.isLt
  simp only [recordHeader, List.append_assoc]
  refine ⟨field_leBytes_append _ hmagic, ?_, ?_, ?_, ?_, ?_, ?_, ?_⟩ <;>
    simp (disch := simp) only [field_append_right, leBytes_length, Nat.reduceSub, field_leBytes_append _ hepoch,
      field_leBytes_append _ hq, field_leBytes_append _ hwindow, field_leBytes_append _ hcount, field_leBytes_append _ hlength,
      field_leBytes_append _ haddress, field_leBytes_append _ hvalue]

/-- The fields of a record's trailer (R88, R89). -/
theorem recordTrailer_fields {n : Nat} (hn : n ≤ 256) (body : List Byte) :
    let trailer := recordTrailer q n body
    field trailer 0 4 = Config.trailerMagic ∧ field trailer 4 4 = recordLength n ∧ field trailer 8 8 = q.toNat ∧
      field trailer 16 4 = (crc32 body).toNat := by
  have hmagic : Config.trailerMagic < 256 ^ 4 := by decide
  have hq : q.toNat < 256 ^ 8 := q.isLt
  have hlength : recordLength n < 256 ^ 4 := by unfold recordLength; omega
  have hcrc : (crc32 body).toNat < 256 ^ 4 := (crc32 body).isLt
  simp only [recordTrailer, List.append_assoc]
  refine ⟨field_leBytes_append _ hmagic, ?_, ?_, ?_⟩ <;>
    simp (disch := simp) only [field_append_right, leBytes_length, Nat.reduceSub, field_leBytes_append _ hq,
      field_leBytes_append _ hlength, field_leBytes_append _ hcrc]

end Record

/-- The entries of a record, 80 bytes each (R87). -/
def entryBytes (slots : List HeldSlot) : List Byte := (slots.map recordEntry).flatten

theorem entryBytes_length {slots : List HeldSlot} (h : ∀ x ∈ slots, x.bytes.length = 64) :
    (entryBytes slots).length = 80 * slots.length := by
  unfold entryBytes
  induction slots with
  | nil => rfl
  | cons x slots ih =>
    rw [List.map_cons, List.flatten_cons, List.length_append, recordEntry_length (h x (List.mem_cons_self ..)),
      ih fun y hy => h y (List.mem_cons_of_mem _ hy), List.length_cons]
    omega

/-- Entry `i` stands 80 bytes per earlier entry behind the header (R87). -/
theorem drop_entryBytes : ∀ {slots : List HeldSlot} {i : Nat} (_ : ∀ x ∈ slots, x.bytes.length = 64) (hi : i < slots.length),
    ∃ rest, (entryBytes slots).drop (80 * i) = recordEntry slots[i] ++ rest := by
  intro slots
  induction slots with
  | nil => intro i _ hi; cases hi
  | cons x slots ih =>
    intro i h hi
    have hx : (recordEntry x).length = 80 := recordEntry_length (h x (List.mem_cons_self ..))
    have hcons : entryBytes (x :: slots) = recordEntry x ++ entryBytes slots := by
      unfold entryBytes; rw [List.map_cons, List.flatten_cons]
    cases i with
    | zero => exact ⟨entryBytes slots, hcons⟩
    | succ i =>
      obtain ⟨rest, hrest⟩ := ih (i := i) (fun y hy => h y (List.mem_cons_of_mem _ hy)) (by simpa using hi)
      refine ⟨rest, ?_⟩
      rw [hcons, List.drop_append, List.drop_eq_nil_of_le (by omega), List.nil_append, hx,
        show 80 * (i + 1) - 80 = 80 * i by omega, hrest]
      rfl

/-- The replay of an entry is the write of its slot (R156). -/
theorem replayWrite_of_entry {record rest : List Byte} {h : HeldSlot} {i : Nat} (hb : h.bytes.length = 64)
    (hdrop : record.drop (64 + 80 * i) = recordEntry h ++ rest) : replayWrite record i = .write h.line h.bytes := by
  have hline : h.line.toNat < 256 ^ 8 := Nat.lt_trans h.line.isLt (by decide)
  have hmask : maskOf h.bytes < 256 ^ 8 := Nat.lt_of_lt_of_eq (maskOf_lt h.bytes) (by rw [hb]; rfl)
  have hdata : ((recordEntry h ++ rest).drop 16).take 64 = dataOf h.bytes := by
    have hentry : recordEntry h ++ rest = (leBytes 8 h.line.toNat ++ leBytes 8 (maskOf h.bytes)) ++ (dataOf h.bytes ++ rest) := by
      simp only [recordEntry, List.append_assoc]
    rw [hentry, List.drop_left' (by simp), List.take_left' (by rw [dataOf_length, hb])]
  have hfirst : field (recordEntry h ++ rest) 0 8 = h.line.toNat := by
    simp only [recordEntry, List.append_assoc]
    exact field_leBytes_append _ hline
  have hsecond : field (recordEntry h ++ rest) 8 8 = maskOf h.bytes := by
    simp (disch := simp) only [recordEntry, List.append_assoc, field_append_right, leBytes_length, Nat.reduceSub,
      field_leBytes_append _ hmask]
  unfold replayWrite
  simp only [hdrop, hdata, hfirst, hsecond, unmask_maskOf, BitVec.ofNat_toNat, BitVec.setWidth_eq]

/-- Settles O31: the layout by the lengths of its parts, the checks of R154 by its fields, and the replay entry by entry. -/
theorem writtenRecordReplaysAsReleased : Obligations.WrittenRecordReplaysAsReleased := by
  unfold Obligations.WrittenRecordReplaysAsReleased
  refine ⟨fun epoch o f m q slots h => ?_, fun epoch o f m q slots offset scanned size h hone hmany hroom hscanned => ?_⟩
  · have hlength : (recordBytes epoch o f m q slots).length = 96 + 80 * slots.length := by
      show ((recordHeader epoch o f m q slots.length ++ entryBytes slots) ++ recordTrailer q slots.length _).length = _
      rw [List.length_append, List.length_append, recordHeader_length, recordTrailer_length, entryBytes_length h]
      omega
    exact ⟨recordHeader epoch o f m q slots.length, recordTrailer q slots.length _, recordHeader_length .., recordTrailer_length ..,
      fun x hx => recordEntry_length (h x hx), rfl, hlength, by omega⟩
  · intro record
    let body := recordHeader epoch o f m q slots.length ++ entryBytes slots
    have hrecord : record = body ++ recordTrailer q slots.length body := rfl
    have hassoc : record = recordHeader epoch o f m q slots.length ++ (entryBytes slots ++ recordTrailer q slots.length body) :=
      List.append_assoc ..
    have hbody : body.length = 64 + 80 * slots.length := by
      rw [List.length_append, recordHeader_length, entryBytes_length h]
    obtain ⟨hmagic, hepoch, hsequence, hwindow, hcount, hlength, haddress, hvalue⟩ :=
      recordHeader_fields epoch o f m q hmany (entryBytes slots ++ recordTrailer q slots.length body)
    rw [← hassoc] at hmagic hepoch hsequence hwindow hcount hlength haddress hvalue
    have htake {a n : Nat} (hin : a + n ≤ 64) : field (record.take 64) a n = field record a n := by
      rw [hassoc, List.take_left' (recordHeader_length ..), field_append_left _ (by rw [recordHeader_length]; exact hin)]
    obtain ⟨htmagic, htlength, htsequence, htcrc⟩ := recordTrailer_fields q hmany body
    have htrailer (j n : Nat) : field record (64 + 80 * slots.length + j) n = field (recordTrailer q slots.length body) j n := by
      rw [hrecord, field_append_right _ _ (by omega), hbody, Nat.add_sub_cancel_left]
    have hcovered : record.take (64 + 80 * slots.length) = body := List.take_left' hbody
    refine ⟨?_, ?_, hmagic, hcount, ?_, ?_⟩
    · rw [headerPasses_iff]
      simp only [htake (show 4 + 4 ≤ 64 by decide), htake (show 8 + 8 ≤ 64 by decide), htake (show 16 + 1 ≤ 64 by decide),
        htake (show 18 + 2 ≤ 64 by decide), htake (show 20 + 4 ≤ 64 by decide), hepoch, hsequence, hwindow, hcount, hlength]
      exact ⟨trivial, trivial, hone, hmany, trivial, hroom, hscanned, o.window.isLt⟩
    · rw [trailerPasses_iff, hcount, hcovered, hsequence, hlength]
      exact ⟨(htrailer 0 4).trans htmagic, (htrailer 8 8).trans htsequence, (htrailer 4 4).trans htlength,
        (htrailer 16 4).trans htcrc⟩
    · rw [replayWrites_eq]
      refine List.ext_getElem (by simp) fun i h1 h2 => ?_
      have hi : i < slots.length := by simpa using h2
      obtain ⟨rest, hrest⟩ := drop_entryBytes h hi
      rw [List.getElem_map, List.getElem_map, List.getElem_range]
      refine replayWrite_of_entry (rest := rest ++ recordTrailer q slots.length body) (h slots[i] (List.getElem_mem hi)) ?_
      rw [hassoc, List.drop_append, List.drop_eq_nil_of_le (by rw [recordHeader_length]; omega), List.nil_append,
        recordHeader_length, Nat.add_sub_cancel_left,
        List.drop_append_of_le_length (by rw [entryBytes_length h]; omega), hrest, List.append_assoc]
    · rw [haddress, hvalue]
      simp only [BitVec.ofNat_toNat, BitVec.setWidth_eq]

end Sys2Proof.Proofs.MemoryFormats
end

section
/-! PROOF. The moves: every change that a command makes to the state, cut so small that each law of the machine is kept by each
move, and so large that none is broken between two. What a law does not read changes with the move `beside`. -/

namespace Sys2Proof.Proofs.Steps
open Sys2Proof Sys2Proof.Machine Sys2Proof.Proofs.Faults

/-! ### What no law reads -/

/-- A state with another's events, answers, in-doubt list, input lines, time, queue of commands and head of the ingress queue:
what changes beside a move. -/
def besides (s t : State) : State :=
  { s with
    events := t.events, upOut := t.upOut, inDoubt := t.inDoubt, reply := t.reply, pfwarn := t.pfwarn
    timebase := t.timebase, refclkLeft := t.refclkLeft, pending := t.pending
    ingress := { s.ingress with
      queue := t.ingress.queue, wait := t.ingress.wait, timer := t.ingress.timer, walk := t.ingress.walk } }

/-- The event queue and the ingress queue stay within their depths (R163, R187). -/
structure StaysBounded (s t : State) : Prop where
  events : s.events.entries.length ≤ Config.eventDepth → t.events.entries.length ≤ Config.eventDepth
  queue : s.ingress.queue.length ≤ Config.ingressDepth → t.ingress.queue.length ≤ Config.ingressDepth

/-- The contexts of a state once its OPEN ones, and of the listed ones the QUEUED and WRITING, are gone (R37, R38, R39). -/
def FailsOpen (s : State) (freed : List ContextIx) (v : Vector Context 16) : Prop :=
  ∀ x : ContextIx, (x ∈ freed ∧ ((s.ctx x).isQueued = true ∨ (s.ctx x).isWriting = true) → v[x] = .free) ∧
    (¬(x ∈ freed ∧ ((s.ctx x).isQueued = true ∨ (s.ctx x).isWriting = true)) →
      ∃ r now orphan, v[x] = (s.ctx x).failedBy r now orphan)

/-- The hold buffer once the slots of every context that was OPEN, and of those of the listed ones that were QUEUED or WRITING,
are gone. -/
def heldAfter (s : State) (freed : List ContextIx) : List HeldSlot :=
  s.hold.filter fun h => !((s.ctx h.owner).isOpen || (decide (h.owner ∈ freed) &&
    ((s.ctx h.owner).isQueued || (s.ctx h.owner).isWriting)))

/-! ### The moves -/

/-- One move of the machine. -/
inductive Move (s : State) : State → Prop
  /-- What no law reads. -/
  | beside (t : State) (h : StaysBounded s t) : Move s (besides s t)
  /-- The registers (R194); the ring size only in INIT (R193). -/
  | settings (g : Settings) (hrange : s.RegistersInRange → State.RegistersInRange { s with settings := g })
      (hsize : g.ringSizeLog2 = s.settings.ringSizeLog2 ∨ s.mode = .init) : Move s { s with settings := g }
  /-- The window table (R1). -/
  | windows (v : Vector Window 8) (hrange : s.RegistersInRange → State.RegistersInRange { s with windows := v }) :
      Move s { s with windows := v }
  /-- Cold reset (R42). -/
  | coldReset : Move s s.coldReset
  /-- OPEN (R20). -/
  | opened (c : ContextIx) (o : Owner) (last : Word64) (timer : Bool) (hfree : (s.ctx c).isFree = true)
      (hmode : s.mode = .online) (hunbound : s.boundContext o.initiator o.window = none) :
      Move s { s with
        contexts := s.contexts.set c (.opened o false last timer)
        bindings := s.bindings ++ [⟨o.initiator, o.window, c⟩] }
  /-- Activity and interference in an OPEN context (R25, R59). -/
  | refreshed (c : ContextIx) (x : Context) (hopen : (s.ctx c).isOpen = true) (hx : x.isOpen = true)
      (howner : x.owner? = (s.ctx c).owner?) : Move s { s with contexts := s.contexts.set c x }
  /-- Failure of an OPEN context (R27). -/
  | failed (c : ContextIx) (x : Context) (hopen : (s.ctx c).isOpen = true) (hx : x.isFailed = true)
      (howner : x.owner? = (s.ctx c).owner?) :
      Move s { s with contexts := s.contexts.set c x, hold := s.hold.filter fun h => h.owner ≠ c }
  /-- An OPEN context goes FREE with its slots (R22, R24). -/
  | dropped (c : ContextIx) (i : Initiator) (w : WindowIx) (hopen : (s.ctx c).isOpen = true)
      (hbound : s.boundContext i w = some c) :
      Move s { s with
        contexts := s.contexts.set c .free
        hold := s.hold.filter fun h => h.owner ≠ c
        bindings := s.bindings.filter fun b => !(b.initiator = i && b.window = w) }
  /-- A FAILED context goes FREE (R21, R24, R31). -/
  | closed (c : ContextIx) (i : Initiator) (w : WindowIx) (hfailed : (s.ctx c).isFailed = true)
      (hpair : s.boundContext i w = some c ∨ ∃ o ∈ (s.ctx c).owner?, o.initiator = i ∧ o.window = w) :
      Move s { s with
        contexts := s.contexts.set c .free
        bindings := s.bindings.filter fun b => !(b.initiator = i && b.window = w) }
  /-- COMMIT of an OPEN context that holds lines (R23). -/
  | committed (c : ContextIx) (x : Context) (i : Initiator) (w : WindowIx) (hopen : (s.ctx c).isOpen = true)
      (hx : x.isQueued = true) (hbound : s.boundContext i w = some c) :
      Move s { s with
        contexts := s.contexts.set c x
        bindings := s.bindings.filter fun b => !(b.initiator = i && b.window = w)
        writer := { s.writer with commitQueue := s.writer.commitQueue ++ [c] } }
  /-- A piece merged into a slot (R47). -/
  | merged (n : SlotNo) (bytes : LineBytes) (hlength : bytes.length = 64) (hbytes : hasBytes bytes = true) :
      Move s (s.mergeSlot n bytes)
  /-- A slot allocated to an OPEN context (R46, R48). -/
  | allocated (c : ContextIx) (n : SlotNo) (line : Addr) (bytes : LineBytes) (hopen : (s.ctx c).isOpen = true)
      (hfree : s.freeSlot = some n) (hlength : bytes.length = 64) (hbytes : hasBytes bytes = true) (hline : line = lineOf line)
      (hlast : ∀ h, (s.chain line).getLast? = some h → h.owner ≠ c ∧ (s.ctx h.owner).isOpen = false) :
      Move s (s.allocateSlot n line bytes c)
  /-- Requests handed over with one pending answer (R166, R169). -/
  | handedOver (r : Requester) (requests : List DownRequest) (hsome : requests ≠ []) : Move s (s.handOver r requests)
  /-- The READ of a tracking entry handed over (R70). -/
  | tracked (k : EntryNo) (e : TrackEntry) (request : DownRequest) (hfree : s.trackEntry k = none) :
      Move s ((s.setTrack k (some e)).handOverTracked k request)
  /-- The writer takes the head of the commit queue (R84). -/
  | taken (c : ContextIx) (rest : List ContextIx) (o : Owner) (f : Bool) (m : CommitMarker) (p : Option Requester) (g : Grant)
      (hqueue : s.writer.commitQueue = c :: rest) (hctx : s.ctx c = .queued o f m p)
      (hgrant : s.ring.grant s.ringSize (recordLength (s.entryCount c)) = some g) (hactive : s.writer.active = true)
      (hmode : s.mode.carriesCommits = true) : Move s (s.takeGranted c o f m p g)
  /-- The again flag and the space request (R108, R112). -/
  | flags (again space : Bool) : Move s { s with ring := { s.ring with again := again, spaceRequest := space } }
  /-- An anchor update starts (R112). -/
  | updateStarted (hidle : s.ring.update = .idle) (hmode : s.mode.carriesCommits = true) (hbytes : s.ring.unanchored ≠ 0) :
      Move s { s with ring := { s.ring with again := false, update := .homeFlush, toIssue := [(.flush, .homeFlush)] } }
  /-- The record flush is presented (R93). -/
  | flushPresented (hbatch : s.writer.openBatch ≠ []) (hwritten : ∀ b ∈ s.writer.openBatch, b.unanswered = 0)
      (hflight : s.writer.flight = none) :
      Move s { s with writer := { s.writer with
        openBatch := [], flight := some ⟨s.writer.openBatch.map BatchRecord.context, true⟩ } }
  /-- A handed-over request is granted (R166, R173). -/
  | ingressGranted (x : HandOver) (rest : List HandOver) (hhand : s.ingress.handOver = x :: rest)
      (hroom : s.downstream.outstanding.length < Config.outstandingDepth) :
      Move s { s.issue .ingress x.request x.ref with ingress := { s.ingress with handOver := rest } }
  /-- The record flush is granted (R93). -/
  | flushGranted (contexts : List ContextIx) (hflight : s.writer.flight = some ⟨contexts, true⟩)
      (hroom : s.downstream.outstanding.length < Config.outstandingDepth) :
      Move s { s.issue .writer .flush .recordFlush with writer := { s.writer with flight := some ⟨contexts, false⟩ } }
  /-- A record write is granted (R91, R92). -/
  | writeGranted (done more : List BatchRecord) (b : BatchRecord) (q : DownRequest)
      (hbatch : s.writer.openBatch = done ++ b :: more)
      (hroom : s.downstream.outstanding.length < Config.outstandingDepth) :
      Move s { s.issue .writer q (.recordWrite b.context) with writer := { s.writer with
        openBatch := done ++ { b with toIssue := b.toIssue.tail, unanswered := b.unanswered + 1 } :: more } }
  /-- A request of the ring manager, the release engine or the recovery engine is issued (R172). -/
  | issued (p : Port) (q : DownRequest) (ref : Ref)
      (hroom : s.downstream.outstanding.length < Config.outstandingDepth)
      (href : (q, ref) ∈ s.ring.toIssue ∨ (q, ref) ∈ s.recovery.toIssue ∨ ref.port = .release) : Move s (s.issue p q ref)
  /-- A request leaves the ring manager (R173). -/
  | ringIssued : Move s { s with ring := { s.ring with toIssue := s.ring.toIssue.tail } }
  /-- A request leaves the recovery engine (R173). -/
  | recoveryIssued : Move s { s with recovery := { s.recovery with toIssue := s.recovery.toIssue.tail } }
  /-- The snapshot at the grant of the home FLUSH (R113). -/
  | snapshotTaken (hclosing : s.ring.closing = false) :
      Move s { s with ring := { s.ring with
        snapshot := some ⟨s.ring.retiredOffset, s.ring.retiredSequence, s.ring.unanchored⟩, retirements := 0 } }
  /-- The release engine's progress and its presented write (R125, R126). -/
  | progressed (l : List Progress) (w : Option ReleaseWrite)
      (hl : l.map Progress.context = s.release.releasing.map Progress.context) :
      Move s { s with release := { s.release with releasing := l, presented := w } }
  /-- An answer that no pending answer, tracking entry or writer takes: the entry is removed (R98, R172, R176). -/
  | removed (tag : XferTag) (e : OutEntry) (hentry : s.entry tag = some e)
      (hanswer : ∀ id, e.ref = .pendingAnswer id → s.ingress.answers.find? (fun p => p.id = id) = none)
      (htracking : ∀ k, e.ref = .tracking k → s.trackEntry k = none)
      (hwriter : e.ref.port = .writer → s.writer.active = false ∨ e.ref = .recordFlush ∧ s.writer.flight = none) :
      Move s (s.removeEntry tag)
  /-- An answer counted (R169). -/
  | counted (tag : XferTag) (e : OutEntry) (p : PendingAnswer) (failed : Bool) (hentry : s.entry tag = some e)
      (href : e.ref = .pendingAnswer p.id) (hp : p ∈ s.ingress.answers) (hmore : 1 < p.remaining) :
      Move s { s.removeEntry tag with ingress := { s.ingress with answers := s.ingress.answers.map fun q =>
        if q.id = p.id then { q with remaining := q.remaining - 1, failed := failed } else q } }
  /-- The last answer counted (R169). -/
  | answered (tag : XferTag) (e : OutEntry) (p : PendingAnswer) (hentry : s.entry tag = some e)
      (href : e.ref = .pendingAnswer p.id) (hp : p ∈ s.ingress.answers) (hlast : p.remaining ≤ 1) :
      Move s { s.removeEntry tag with ingress := { s.ingress with
        answers := s.ingress.answers.filter fun q => q.id ≠ p.id } }
  /-- The READ of a tracking entry answered (R73, R74). -/
  | readEnded (tag : XferTag) (e : OutEntry) (k : EntryNo) (hentry : s.entry tag = some e) (href : e.ref = .tracking k) :
      Move s ((s.removeEntry tag).setTrack k none)
  /-- A record write acknowledged (R92). -/
  | writeAcknowledged (tag : XferTag) (e : OutEntry) (c : ContextIx) (hentry : s.entry tag = some e)
      (href : e.ref = .recordWrite c) : Move s ((s.removeEntry tag).countRecordWrite c)
  /-- A record flush acknowledged (R94). -/
  | flushAcknowledged (tag : XferTag) (e : OutEntry) (f : RecordFlush) (v : Vector Context 16) (queue : List ContextIx)
      (hentry : s.entry tag = some e) (href : e.ref = .recordFlush) (hflight : s.writer.flight = some f)
      (hctx : ∀ x : ContextIx, v[x] = if x ∈ f.contexts then JournalWriter.durableOf (s.ctx x) else s.ctx x)
      (hqueue : f.contexts.Nodup → (∀ c ∈ f.contexts, (s.ctx c).isWriting = true) → queue = s.release.queue ++ f.contexts) :
      Move s { s.removeEntry tag with
        contexts := v, writer := { s.writer with flight := none }, release := { s.release with queue := queue } }
  /-- A journal fault (R38, R97). -/
  | journalFault (v : Vector Context 16) (hctx : FailsOpen s s.sealing v)
      (hwhy : s.writer.active = true ∨ s.ring.update ≠ .idle ∧ s.ring.closing = false) :
      Move s { s with
        mode := .faulted, contexts := v, hold := heldAfter s s.sealing, ring := stoppedRing s.ring
        writer := ⟨false, [], [], none⟩ }
  /-- A release fault (R131). -/
  | releaseFault (v : Vector Context 16) (hctx : FailsOpen s [] v) (hwhy : s.release.active = true) :
      Move s { s with
        mode := .faulted, contexts := v, hold := heldAfter s [], ring := stoppedRing s.ring
        release := { s.release with active := false, presented := none } }
  /-- A recovery fault (R159). -/
  | recoveryFault (hwhy : s.recovery.phase.isCleared = true ∨ s.ring.closing = true) :
      Move s { s with
        mode := .faulted
        ring := { s.ring with update := .idle, snapshot := none, closing := false, toIssue := [], writesAcked := 0 }
        recovery := ⟨.idle, []⟩ }
  /-- The entry to DRAINING (R37, R181). -/
  | drainEntered (v : Vector Context 16) (hctx : FailsOpen s [] v) (hmode : s.mode = .online) :
      Move s { s with mode := .draining, contexts := v, hold := heldAfter s [] }
  /-- The end of the drain (R183). -/
  | drainEnded (hdone : s.drainDone = true) : Move s { s with mode := .drained }
  /-- The return to ONLINE (R184). -/
  | drainLeft (hmode : s.mode = .draining ∨ s.mode = .drained) : Move s { s with mode := .online }
  /-- START (R140, R150). -/
  | started (format : Bool) (l : List (DownRequest × Ref)) (hmode : s.mode = .init)
      (hports : ∀ q ∈ l, q.2.port = .recovery) :
      Move s { s with mode := .recovering, recovery := ⟨.anchors format none none, l⟩ }
  /-- The stopping step of a warm reset (R146). -/
  | warmReset (v : Vector Context 16) (hctx : ∀ x : ContextIx, v[x] = (s.ctx x).atWarmReset) :
      Move s { s with
        mode := .recovering, contexts := v, bindings := []
        ingress := { s.ingress with handOver := s.ingress.handOver.map fun h => { h with beforeReset := true } }
        writer := { s.writer with
          active := false
          openBatch := s.writer.openBatch.map fun b => { b with toIssue := [] }
          flight := s.writer.flight.map fun f => { f with presented := false } }
        ring := stoppedRing s.ring
        release := { s.release with active := false, presented := none }
        recovery := ⟨.quiesce, []⟩ }
  /-- The clearing step of a warm reset (R148). -/
  | cleared (l : List (DownRequest × Ref)) (hquiesced : s.quiesced = true) (hports : ∀ q ∈ l, q.2.port = .recovery) :
      Move s { s with
        contexts := Vector.replicate 16 Context.free, bindings := [], hold := []
        writer := { s.writer with commitQueue := [], openBatch := [], flight := none }
        release := { s.release with queue := [], releasing := [], presented := none }
        ring := Ring.cold
        recovery := ⟨.anchors false none none, l⟩ }
  /-- An anchor update goes on to its next request (R114). -/
  | updateLed (u : AnchorUpdate) (l : List (DownRequest × Ref)) (n : Nat) (hbusy : s.ring.update ≠ .idle)
      (hports : ∀ q ∈ l, q.2.port = .ring ∨ q ∈ s.ring.toIssue) :
      Move s { s with ring := { s.ring with update := u, toIssue := l, writesAcked := n } }
  /-- An anchor update completes (R115). -/
  | updateDone (k : Snapshot) (hclosing : s.ring.closing = false) (hsnapshot : s.ring.snapshot = some k) :
      Move s { s with ring := s.ring.complete k }
  /-- The release engine takes the head of its queue (R123). -/
  | releaseTaken (c : ContextIx) (rest : List ContextIx) (o : Owner) (f : Bool) (m : CommitMarker) (pl : RecordPlace)
      (hqueue : s.release.queue = c :: rest) (hctx : s.ctx c = .durable o f m pl)
      (hroom : s.release.releasing.length < Config.releasingDepth) :
      Move s { s with
        contexts := s.contexts.set c (.releasing o f m pl)
        release := { s.release with queue := rest, releasing := s.release.releasing ++ [⟨c, 0, 0, false, false⟩] } }
  /-- The first releasing context retires (R110, R128). -/
  | retired (p : Progress) (rest : List Progress) (o : Owner) (f : Bool) (m : CommitMarker) (pl : RecordPlace)
      (hset : s.release.releasing = p :: rest) (hctx : s.ctx p.context = .releasing o f m pl) :
      Move s { s with
        contexts := s.contexts.set p.context .free
        hold := s.hold.filter fun h => h.owner ≠ p.context
        release := { s.release with releasing := rest }
        ring := s.ring.retire s.ringSize s.settings.anchorInterval pl.offset (recordLength (s.entryCount p.context))
          pl.sequence }
  /-- A step of the recovery engine (R150–R157). -/
  | recovered (epoch : Word32) (generation : Word64) (copy : AnchorCopy) (phase : Phase) (l : List (DownRequest × Ref))
      (hbefore : s.recovery.phase.isCleared = true) (hafter : phase.isCleared = true)
      (hclose : s.recovery.phase.isClose = true → phase.isClose = true)
      (hports : ∀ q ∈ l, q.2.port = .recovery ∨ q ∈ s.recovery.toIssue) :
      Move s { s with
        ring := { s.ring with epoch := epoch, generation := generation, nextCopy := copy }
        recovery := ⟨phase, l⟩ }
  /-- The closing update is asked for (R120, R157). -/
  | closingAsked (raise : Bool) (k : Close) (hbefore : s.recovery.phase.isCleared = true) :
      Move s { s with
        ring := s.ring.closingAsked raise k.endOffset k.endSequence
        recovery := ⟨.close k, []⟩ }

/-- Any number of moves. -/
abbrev Moves : State → State → Prop := Relation.ReflTransGen Move

/-- The acknowledged anchor FLUSH of the closing update: recovery ends, and the engines restart (R120, R158). -/
inductive Finish (s : State) : State → Prop
  | finished (tag : XferTag) (e : OutEntry) (k : Close) (hentry : s.entry tag = some e) (href : e.ref = .anchorFlush)
      (hphase : s.recovery.phase = .close k) (hclosing : s.ring.closing = true) :
      Finish s { s.removeEntry tag with
        mode := .online
        ring := s.ring.resume k
        writer := ⟨true, [], [], none⟩
        release := ⟨true, [], [], none⟩
        recovery := ⟨.idle, []⟩ }

/-- Everything a step can come to: moves, and perhaps first the end of a recovery. -/
def Comes (s t : State) : Prop := Moves s t ∨ ∃ u, Finish s u ∧ Moves u t

/-- What every move keeps, any number keeps. -/
theorem Moves.keep {P : State → Prop} (hP : ∀ s t, P s → Move s t → P t) {s t : State} (h : Moves s t) (hs : P s) : P t := by
  induction h with
  | refl => exact hs
  | tail _ hmove ih => exact hP _ _ ih hmove

/-! ### Moves that leave the mode -/

/-- Moves after which the mode is what it was. -/
structure Calm (s t : State) : Prop where
  moves : Moves s t
  mode : t.mode = s.mode

namespace Calm
variable {s t u : State}

@[refl] theorem refl : Calm s s := ⟨.refl, rfl⟩

theorem trans (h : Calm s t) (g : Calm t u) : Calm s u := ⟨h.moves.trans g.moves, g.mode.trans h.mode⟩

theorem single (h : Move s t) (hmode : t.mode = s.mode) : Calm s t := ⟨.single h, hmode⟩

theorem head (h : Move s t) (hmode : t.mode = s.mode) (g : Calm t u) : Calm s u := (single h hmode).trans g

theorem tail (h : Calm s t) (g : Move t u) (hmode : u.mode = t.mode) : Calm s u := h.trans (single g hmode)

end Calm

end Sys2Proof.Proofs.Steps
end

section
/-! PROOF. The moves of the operations that several commands share, and of the evaluation of the head. -/

namespace Sys2Proof.Proofs.Steps
open Sys2Proof Sys2Proof.Machine Sys2Proof.Proofs.Faults Sys2Proof.Proofs.RecoveryEnd Sys2Proof.Proofs.HeadEnds

/-! ### Beside the moves -/

theorem StaysBounded.of_eq {s t : State} (he : t.events = s.events) (hq : t.ingress.queue = s.ingress.queue) :
    StaysBounded s t := ⟨fun h => he ▸ h, fun h => hq ▸ h⟩

theorem pushAll_length_le {s : State} (bs : List EventBody) (h : s.events.entries.length ≤ 64) :
    (s.pushAll bs).events.entries.length ≤ 64 := by
  induction bs generalizing s with
  | nil => exact h
  | cons b bs ih => exact ih (State.push_length_le b h)

theorem StaysBounded.of_pushAll {s t u : State} {bs : List EventBody} (he : t.events = (u.pushAll bs).events)
    (hu : u.events = s.events) (hq : t.ingress.queue.length ≤ s.ingress.queue.length) : StaysBounded s t :=
  ⟨fun h => he ▸ pushAll_length_le bs (hu ▸ h), fun h => Nat.le_trans hq h⟩

/-- Moves, and then a change of what no law reads. -/
theorem Moves.beside {s c t : State} (h : Moves s c) (ht : t = besides c t) (hb : StaysBounded c t) : Moves s t := by
  have hlast : Move c (besides c t) := .beside t hb
  rw [← ht] at hlast
  exact h.tail hlast

/-- Moves that leave the mode, and then a change of what no law reads. -/
theorem Calm.beside {s c t : State} (h : Calm s c) (ht : t = besides c t) (hb : StaysBounded c t) : Calm s t :=
  ⟨h.moves.beside ht hb, (congrArg State.mode ht).trans h.mode⟩

/-- One move, and then a change of what no law reads. -/
theorem Move.thenBeside {s c t : State} (h : Move s c) (ht : t = besides c t) (hb : StaysBounded c t) : Moves s t :=
  Moves.beside (.single h) ht hb

/-- One move that leaves the mode, and then a change of what no law reads. -/
theorem Move.calmBeside {s c t : State} (h : Move s c) (hmode : c.mode = s.mode) (ht : t = besides c t)
    (hb : StaysBounded c t) : Calm s t := Calm.beside (.single h hmode) ht hb

theorem calm_pushAll (s : State) (bs : List EventBody) : Calm s (s.pushAll bs) := by
  refine Calm.beside .refl ?_ (.of_pushAll rfl rfl ?_)
  · rw [pushAll_eq]; rfl
  · rw [pushAll_eq]

theorem calm_push (s : State) (b : EventBody) : Calm s (s.push b) := calm_pushAll s [b]

theorem calm_pushIf (s : State) (e : Bool) (b : EventBody) : Calm s (s.pushIf e b) := by
  unfold State.pushIf
  split
  · exact calm_push s b
  · exact .refl

theorem calm_answer (s : State) (r : Requester) (code : AnswerCode) : Calm s (s.answer r code) :=
  Calm.beside .refl rfl (.of_eq rfl rfl)

theorem calm_leaveHead (s : State) : Calm s s.leaveHead :=
  Calm.beside .refl rfl ⟨id, fun h => Nat.le_trans (by simp [State.leaveHead]) h⟩

theorem calm_endRequest (s : State) (r : Requester) (code : AnswerCode) : Calm s (s.endRequest r code) :=
  (calm_answer s r code).trans (calm_leaveHead _)

theorem calm_endWait (s : State) (f : HeadWait → Bool) : Calm s (s.endWait f) := by
  rw [State.endWait_eq]
  exact Calm.beside .refl rfl (.of_eq rfl rfl)

theorem calm_enterWait (s : State) (w : HeadWait) (k : Option Walk) : Calm s (s.enterWait w k) :=
  Calm.beside .refl rfl (.of_eq rfl rfl)

/-! ### Contexts (R25, R27, R59) -/

theorem calm_failContext (s : State) (c : ContextIx) (r : FailReason) (l : Option Addr) : Calm s (s.failContext c r l) := by
  cases hc : s.ctx c with
  | opened o f a t =>
    obtain ⟨w, k, he⟩ := State.failContext_eq r l hc
    rw [he]
    refine Calm.trans ?_ (calm_push _ _)
    exact (Move.failed c (.failed o r s.timebase (some s.settings.orphanTimeout)) (by rw [hc]; rfl) rfl
      (by rw [hc]; rfl)).calmBeside rfl rfl (.of_eq rfl rfl)
  | _ => rw [State.failContext_of_not_open r l (by rw [hc]; rfl)]

theorem calm_touch (s : State) (c : ContextIx) : Calm s (s.touch c) := by
  unfold State.touch
  cases hc : s.ctx c with
  | opened o f a t => exact .single (.refreshed c (.opened o f s.timebase t) (by rw [hc]; rfl) rfl (by rw [hc]; rfl)) rfl
  | _ => exact .refl

theorem calm_setInterfered (s : State) (c : ContextIx) : Calm s (s.setInterfered c) := by
  unfold State.setInterfered
  cases hc : s.ctx c with
  | opened o f a t => exact .single (.refreshed c (.opened o true a t) (by rw [hc]; rfl) rfl (by rw [hc]; rfl)) rfl
  | _ => exact .refl

/-! ### Marker commands (R19–R24) -/

section Markers

variable {s : State} {m : MarkerWrite}

theorem calm_refuseMarker (s : State) (m : MarkerWrite) (r : MarkerRefusal) (c : Option ContextIx) :
    Calm s (s.refuseMarker m r c) := (calm_answer s _ _).trans (calm_push _ _)

theorem isFree_of_freeContext {c : ContextIx} (h : s.freeContext = some c) : (s.ctx c).isFree = true := by
  unfold State.freeContext at h
  exact List.find?_some (p := fun c => (s.ctx c).isFree) h

theorem calm_openMarker (s : State) (m : MarkerWrite) : Calm s (s.openMarker m) := by
  unfold State.openMarker
  by_cases hmode : s.mode ≠ .online
  · rw [if_pos hmode]; exact calm_refuseMarker s m _ _
  · rw [if_neg hmode]
    cases hbound : s.boundContext m.requester.initiator m.window with
    | some c => exact calm_refuseMarker s m _ _
    | none =>
      cases hfree : s.freeContext with
      | none => exact calm_refuseMarker s m _ _
      | some c =>
        exact (Move.opened c ⟨m.requester.initiator, m.window, markerTag m.value⟩ s.timebase
          ((s.window m.window).idleTimeout ≠ 0) (isFree_of_freeContext hfree) (not_not.mp hmode) hbound).calmBeside rfl
            rfl (.of_eq rfl rfl)

/-- With no slot held there is none to drop. -/
theorem hold_of_noEntry {c : ContextIx} (h : s.entryCount c = 0) : s.hold = s.hold.filter fun h => h.owner ≠ c :=
  (State.filter_owner_of_slotList_nil (List.length_eq_zero_iff.mp h)).symm

theorem calm_commitQueued {c : ContextIx} {o : Owner} {f : Bool} {last : Word64} {timer : Bool}
    (hctx : s.ctx c = .opened o f last timer) (hbound : s.boundContext m.requester.initiator m.window = some c) :
    Calm s (s.commitQueued m c o f) := by
  have hopen : (s.ctx c).isOpen = true := by rw [hctx]; rfl
  have hmove (p : Option Requester) : Move s _ :=
    .committed c (.queued o f ⟨markerTag m.value, m.address, m.value⟩ p) m.requester.initiator m.window hopen rfl hbound
  unfold State.commitQueued
  cases (s.window m.window).ackMode with
  | early => exact (hmove none).calmBeside rfl rfl (.of_eq rfl rfl)
  | durable => exact .single (hmove (some m.requester)) rfl

theorem calm_commitMarker (s : State) (m : MarkerWrite) : Calm s (s.commitMarker m) := by
  unfold State.commitMarker
  cases hbound : s.boundContext m.requester.initiator m.window with
  | none => exact calm_refuseMarker s m _ _
  | some c =>
    cases hctx : s.ctx c with
    | failed o why since orphan =>
      simp only [hctx]
      exact (Move.closed c _ _ (by rw [hctx]; rfl) (.inl hbound)).calmBeside rfl rfl (.of_eq rfl rfl)
    | opened o f last timer =>
      simp only [hctx]
      by_cases hnone : s.entryCount c = 0
      · rw [if_pos hnone]
        refine (Move.dropped c _ _ (by rw [hctx]; rfl) hbound).calmBeside rfl ?_ (.of_eq rfl rfl)
        rw [← hold_of_noEntry hnone]
        rfl
      · rw [if_neg hnone]
        exact calm_commitQueued hctx hbound
    | _ => simp only [hctx]; exact calm_refuseMarker s m _ _

theorem calm_abortMarker (s : State) (m : MarkerWrite) : Calm s (s.abortMarker m) := by
  unfold State.abortMarker
  cases hbound : s.boundContext m.requester.initiator m.window with
  | none => exact calm_refuseMarker s m _ _
  | some c =>
    cases hctx : s.ctx c with
    | failed o why since orphan =>
      simp only [hctx]
      exact (Move.closed c _ _ (by rw [hctx]; rfl) (.inl hbound)).calmBeside rfl rfl (.of_eq rfl rfl)
    | opened o f last timer =>
      simp only [hctx]
      refine Calm.trans ?_ (calm_pushIf _ _ _)
      rw [State.discard_eq]
      exact (Move.dropped c _ _ (by rw [hctx]; rfl) hbound).calmBeside rfl rfl (.of_eq rfl rfl)
    | _ => simp only [hctx]; exact calm_refuseMarker s m _ _

theorem calm_marker (s : State) (m : MarkerWrite) (cmd : MarkerCommand) : Calm s (s.marker m cmd) := by
  cases cmd with
  | openTxn => exact calm_openMarker s m
  | commitTxn => exact calm_commitMarker s m
  | abortTxn => exact calm_abortMarker s m

end Markers

/-! ### Data writes (R46–R57) -/

theorem lineOf_lineOf (a : Addr) : lineOf a = lineOf (lineOf a) := by
  refine BitVec.eq_of_toNat_eq ?_
  rw [Overlays.lineOf_toNat (lineOf a), Overlays.lineOf_toNat a]
  omega

theorem isOpen_of_bound {s : State} {i : Initiator} {w : WindowIx} {c : ContextIx} (h : s.bound i w = .opened c) :
    (s.ctx c).isOpen = true := by
  unfold State.bound at h
  cases hb : s.boundContext i w with
  | none => rw [hb] at h; cases h
  | some d =>
    rw [hb] at h
    cases hd : s.ctx d with
    | opened o f a t =>
      simp only [hd] at h
      cases h
      rw [hd]; rfl
    | _ => simp only [hd] at h; cases h

theorem calm_placeNew {s : State} {c : ContextIx} (w : WindowIx) {line : Addr} {bytes : LineBytes}
    (hopen : (s.ctx c).isOpen = true) (hlength : bytes.length = 64) (hbytes : hasBytes bytes = true) (hline : line = lineOf line)
    (hlast : ∀ h, (s.chain line).getLast? = some h → h.owner ≠ c ∧ (s.ctx h.owner).isOpen = false) :
    Calm s (s.placeNew c w line bytes).2 := by
  unfold State.placeNew
  by_cases hfit : (s.window w).lengthLimit < s.entryCount c + 1
  · rw [if_pos hfit]; exact calm_failContext s c _ _
  · rw [if_neg hfit]
    cases hfree : s.freeSlot with
    | some n => exact .head (.allocated c n line bytes hopen hfree hlength hbytes hline hlast) rfl (calm_touch _ c)
    | none =>
      cases (s.window w).fullPolicy with
      | fail => exact calm_failContext s c _ _
      | stall => exact .refl

theorem calm_placePiece {s : State} {c : ContextIx} (w : WindowIx) {line : Addr} {bytes : LineBytes}
    (hopen : (s.ctx c).isOpen = true) (hlength : bytes.length = 64) (hbytes : hasBytes bytes = true)
    (hline : line = lineOf line) : Calm s (s.placePiece c w line bytes).2 := by
  unfold State.placePiece
  cases hlast : (s.chain line).getLast? with
  | none => exact calm_placeNew w hopen hlength hbytes hline fun h hh => by rw [hlast] at hh; cases hh
  | some h =>
    by_cases hown : h.owner = c
    · simp only [if_pos hown]
      exact .head (.merged h.number bytes hlength hbytes) rfl (calm_touch _ c)
    · by_cases hconflict : (s.ctx h.owner).isOpen = true
      · simp only [if_neg hown, if_pos hconflict]; exact calm_failContext s c _ _
      · simp only [if_neg hown, if_neg hconflict]
        refine calm_placeNew w hopen hlength hbytes hline fun x hx => ?_
        rw [hlast] at hx
        cases hx
        exact ⟨hown, by simpa using hconflict⟩

theorem calm_settlePiece (s : State) (i : Initiator) (p : Addr × List (Option Byte)) : Calm s (s.settlePiece i p).2 := by
  unfold State.settlePiece
  cases s.journalWindow p.1 with
  | none => exact .refl
  | some w =>
    cases hbound : s.bound i w with
    | failed c r => simp only [hbound]; exact .refl
    | unbound => simp only [hbound]; split <;> exact .refl
    | opened c =>
      simp only [hbound]
      by_cases hbytes : hasBytes (pieceBytes p) = true
      · rw [if_pos hbytes]
        exact calm_placePiece w (isOpen_of_bound hbound) (lineBytesAt_length _ _) hbytes (lineOf_lineOf p.1)
      · rw [if_neg hbytes]

theorem calm_walkPieces (i : Initiator) : ∀ (ps : List (Addr × List (Option Byte))) (k : Walk) (s : State),
    Calm s (walkPieces i ps k s).2.2 := by
  intro ps
  induction ps with
  | nil => intro k s; exact .refl
  | cons p ps ih =>
    intro k s
    have hp := calm_settlePiece s i p
    unfold walkPieces
    split <;> rename_i h <;> rw [h] at hp
    · exact hp.trans (ih _ _)
    · exact hp.trans (ih _ _)
    · exact hp.trans (ih _ _)
    · exact hp
    · exact hp

theorem calm_interfere (s : State) (p : ClearedPiece) : Calm s (s.interfere p) := by
  unfold State.interfere
  split
  · cases (s.chain p.line).getLast? with
    | some h => exact calm_setInterfered s h.owner
    | none => exact .refl
  · exact .refl

theorem calm_foldl {α : Type} (f : State → α → State) (hf : ∀ s x, Calm s (f s x)) (l : List α) : ∀ s : State,
    Calm s (l.foldl f s) := by
  induction l with
  | nil => exact fun s => .refl
  | cons x l ih => exact fun s => (hf s x).trans (ih _)

theorem calm_completeWalk (s : State) (r : Requester) (k : Walk) : Calm s (s.completeWalk r k) := by
  unfold State.completeWalk
  refine (calm_foldl State.interfere calm_interfere (k.cleared.filter fun p => hasBytes p.bytes) s).trans ?_
  by_cases hnone : k.cleared.filter (fun p => hasBytes p.bytes) = []
  · simp only [if_pos hnone]
    exact (calm_answer _ _ _).trans (calm_leaveHead _)
  · simp only [if_neg hnone]
    exact .head (.handedOver r _ (by simpa using hnone)) rfl (calm_leaveHead _)

theorem calm_evaluateWrite (s : State) (r : UpRequest) : Calm s (s.evaluateWrite r) := by
  unfold State.evaluateWrite
  generalize s.ingress.walk.getD Walk.fresh = k
  cases hfailed : k.failed with
  | some f => simp only [hfailed]; exact calm_endRequest s _ _
  | none =>
    have hwalk := calm_walkPieces r.initiator ((pieces r).drop k.settled) k s
    simp only [hfailed]
    generalize walkPieces r.initiator ((pieces r).drop k.settled) k s = x at hwalk
    obtain ⟨e, k', t⟩ := x
    cases e with
    | complete => exact hwalk.trans (calm_completeWalk t _ _)
    | stopped f => exact hwalk.trans (calm_endRequest t _ _)
    | paused w => exact hwalk.trans (calm_enterWait t _ _)

/-! ### Reads (R65, R69–R71) -/

theorem calm_handOver_one (s : State) (r : Requester) (q : DownRequest) : Calm s (s.handOver r [q]).leaveHead :=
  .head (.handedOver r [q] (List.cons_ne_nil _ _)) rfl (calm_leaveHead _)

theorem calm_evaluateRead (s : State) (r : UpRequest) : Calm s (s.evaluateRead r) := by
  unfold State.evaluateRead
  cases s.firstJournalPiece r with
  | none => exact calm_handOver_one s _ _
  | some x =>
    by_cases hnone : s.overlays r = []
    · simp only [if_pos hnone]; exact calm_handOver_one s _ _
    · simp only [if_neg hnone]
      cases hfree : s.freeEntry with
      | none => exact calm_enterWait s _ _
      | some k => exact .head (.tracked k _ _ (freeEntry_trackEntry hfree)) rfl (calm_leaveHead _)

/-! ### The evaluation of the head (R165) -/

theorem calm_evaluate (s : State) (r : UpRequest) : Calm s (s.evaluate r) := by
  unfold State.evaluate
  by_cases hpass : passesAddressSpace r = true
  · rw [if_pos hpass]; exact calm_endRequest s _ _
  · rw [if_neg hpass]
    have hwait (w : HeadWait) (k : Option Walk) : Calm s (s.enterWait w k) := calm_enterWait s w k
    have hmarker (m : MarkerWrite) (cmd : MarkerCommand) : Calm s (s.marker m cmd).leaveHead :=
      (calm_marker s m cmd).trans (calm_leaveHead _)
    cases hcheck : s.markerCheck r with
    | malformed w a d =>
      exact ((calm_answer s _ _).trans (calm_push _ _)).trans (calm_leaveHead _)
    | marker w a cmd v =>
      cases s.firstJournalPiece r <;> cases s.mode <;> first | exact hmarker _ _ | exact hwait _ _
    | none =>
      have hkind : Calm s (match r.kind with | .read _ => s.evaluateRead r | .write _ => s.evaluateWrite r) := by
        cases r.kind with
        | read n => exact calm_evaluateRead s r
        | write bs => exact calm_evaluateWrite s r
      cases s.firstJournalPiece r <;> cases s.mode <;> first | exact hkind | exact hwait _ _

theorem calm_evaluateHead (s : State) : Calm s s.evaluateHead := by
  unfold State.evaluateHead
  split
  · exact calm_evaluate s _
  · exact .refl

/-! ### The head's timers and the context timers (R29, R31, R168) -/

theorem calm_expireWait (s : State) (r : UpRequest) (w : HeadWait) : Calm s (s.expireWait r w) := by
  have hreport (code : AnswerCode) (b : EventBody) : Calm s ((s.answer (requesterOf r) code).push b).leaveHead :=
    ((calm_answer s _ _).trans (calm_push _ _)).trans (calm_leaveHead _)
  cases w with
  | mode held =>
    cases held with
    | marker cmd w a => exact hreport _ _
    | data w a => exact hreport _ _
  | slot c line => exact (calm_failContext s c _ _).trans (calm_endRequest _ _ _)
  | bare w a => exact hreport _ _
  | tracking w => exact hreport _ _

theorem calm_stallExpiry (s : State) : Calm s s.stallExpiry := by
  unfold State.stallExpiry
  split
  · split
    · exact calm_expireWait s _ _
    · exact .refl
  · exact .refl

theorem calm_idleExpiry (s : State) (c : ContextIx) : Calm s (s.idleExpiry c) := by
  unfold State.idleExpiry
  split
  · exact calm_failContext s c _ _
  · exact .refl

theorem calm_orphanExpiry (s : State) (c : ContextIx) : Calm s (s.orphanExpiry c) := by
  unfold State.orphanExpiry
  cases hctx : s.ctx c with
  | failed o r since timer =>
    cases timer with
    | none => exact .refl
    | some ms =>
      simp only
      split
      · refine Calm.trans ?_ (calm_push _ _)
        exact .single (.closed c o.initiator o.window (by rw [hctx]; rfl) (.inr ⟨o, by rw [hctx]; rfl, rfl, rfl⟩)) rfl
      · exact .refl
  | _ => exact .refl

theorem calm_accept (s : State) (r : UpRequest) : Calm s (s.accept r) := by
  unfold State.accept
  split
  · rename_i hroom
    refine Calm.beside .refl rfl ⟨id, fun _ => ?_⟩
    show (s.ingress.queue ++ [r]).length ≤ _
    rw [List.length_append]
    exact hroom
  · exact .refl

end Sys2Proof.Proofs.Steps
end

section
/-! PROOF. The moves of the journal writer, the ring manager, the release engine and the arbiter, and of the faults and the drain. -/

namespace Sys2Proof.Proofs.Steps
open Sys2Proof Sys2Proof.Machine Sys2Proof.Proofs.Faults Sys2Proof.Proofs.Answers Sys2Proof.Proofs.JournalWriter

/-! ### The checks that other steps make (R93, R112, R183) -/

theorem updateDue_iff (s : State) : s.updateDue = true ↔ s.ring.update = .idle ∧ s.mode.carriesCommits = true ∧
    s.ring.unanchored ≠ 0 ∧ s.updateTrigger = true := by
  simp [State.updateDue, and_assoc]

theorem calm_startUpdate (s : State) : Calm s s.startUpdate := by
  unfold State.startUpdate
  by_cases hdue : s.updateDue = true
  · rw [if_pos hdue]
    obtain ⟨hidle, hmode, hbytes, -⟩ := (updateDue_iff s).mp hdue
    exact .single (.updateStarted hidle hmode hbytes) rfl
  · rw [if_neg hdue]

theorem calm_checkFlush (s : State) : Calm s s.checkFlush := by
  by_cases hdue : s.flushDue = true
  · rw [checkFlush_of_due hdue]
    obtain ⟨-, hbatch, hwritten, hflight, -⟩ := (flushDue_iff s).mp hdue
    exact .single (.flushPresented hbatch (fun b hb => (hwritten b hb).2) hflight) rfl
  · rw [checkFlush_of_not hdue]

theorem moves_drainCheck (s : State) : Moves s s.drainCheck := by
  by_cases hdone : s.drainDone = true
  · rw [State.drainCheck_of_done hdone, pushAll_eq]
    exact (Move.drainEnded hdone).thenBeside rfl (.of_pushAll rfl rfl (Nat.le_refl _))
  · rw [State.drainCheck_of_not (by simpa using hdone)]

theorem calm_drainTrigger (s : State) : Calm s s.drainTrigger := by
  unfold State.drainTrigger
  by_cases hidle : s.ring.update = .idle
  · rw [if_pos hidle]; exact calm_startUpdate s
  · rw [if_neg hidle]; exact .single (.flags true s.ring.spaceRequest) rfl

/-! ### The journal writer (R83, R84, R108) -/

theorem calm_askForSpace {s : State} (renew : Bool) (hmay : s.mayTakeHead = true) : Calm s (s.askForSpace renew) := by
  obtain ⟨hactive, hmode, -, -⟩ := (mayTakeHead_iff s).mp hmay
  have hcarries : s.mode.carriesCommits = true := (Mode.carriesCommits_iff _).mpr hmode
  unfold State.askForSpace
  cases hqueue : s.writer.commitQueue with
  | nil => exact .refl
  | cons c rest =>
    cases hctx : s.ctx c with
    | queued o f m p =>
      simp only [hctx]
      cases hgrant : s.ring.grant s.ringSize (recordLength (s.entryCount c)) with
      | some g =>
        refine .head (.taken c rest o f m p g hqueue hctx hgrant hactive hcarries) rfl ?_
        simp only
        split
        · exact (calm_startUpdate _).trans (calm_checkFlush _)
        · exact calm_checkFlush _
      | none =>
        simp only
        split
        · exact .refl
        · refine .head (.flags (s.ring.again || s.ring.update ≠ .idle) true) rfl ?_
          exact (calm_startUpdate _).trans (calm_checkFlush _)
    | _ => simp only [hctx]; exact .refl

theorem calm_takeHead (s : State) : Calm s s.takeHead := by
  unfold State.takeHead
  by_cases hmay : s.mayTakeHead = true
  · rw [if_pos hmay]; exact calm_askForSpace false hmay
  · rw [if_neg hmay]; exact calm_checkFlush s

theorem calm_spaceFreed (s : State) : Calm s s.spaceFreed := by
  unfold State.spaceFreed
  by_cases hmay : (s.ring.spaceRequest && s.mayTakeHead) = true
  · rw [if_pos hmay]
    exact calm_askForSpace true (by rw [Bool.and_eq_true] at hmay; exact hmay.2)
  · rw [if_neg hmay]

/-! ### The release engine (R123, R125, R126, R128) -/

theorem calm_presentRelease (s : State) : Calm s s.presentRelease := by
  unfold State.presentRelease
  split
  · exact .single (.progressed s.release.releasing _ rfl) rfl
  · exact .refl

theorem map_context_update (l : List Progress) (c : ContextIx) (f : Progress → Progress) (hf : ∀ p, (f p).context = p.context) :
    (l.map fun p => if p.context = c then f p else p).map Progress.context = l.map Progress.context := by
  rw [List.map_map]
  refine List.map_congr_left fun p _ => ?_
  show Progress.context (if p.context = c then f p else p) = _
  split
  · exact hf p
  · rfl

theorem calm_updateProgress (s : State) (c : ContextIx) (f : Progress → Progress) (hf : ∀ p, (f p).context = p.context) :
    Calm s (s.updateProgress c f) :=
  .single (.progressed _ s.release.presented (map_context_update _ c f hf)) rfl

theorem calm_releaseGranted (s : State) (w : ReleaseWrite) : Calm s (s.releaseGranted w) := by
  refine Calm.trans ?_ (calm_presentRelease _)
  cases w with
  | line c => exact .single (.progressed _ none (map_context_update _ c _ fun _ => rfl)) rfl
  | marker c => exact .single (.progressed _ none (map_context_update _ c _ fun _ => rfl)) rfl

theorem calm_takeDurable (s : State) : Calm s s.takeDurable := by
  unfold State.takeDurable
  cases hqueue : s.release.queue with
  | nil => exact .refl
  | cons c rest =>
    cases hctx : s.ctx c with
    | durable o f m pl =>
      simp only [hctx]
      split
      · rename_i hroom
        simp only [Bool.and_eq_true, decide_eq_true_eq] at hroom
        exact .head (.releaseTaken c rest o f m pl hqueue hctx hroom.2) rfl (calm_presentRelease _)
      · exact .refl
    | _ => simp only [hctx]; exact .refl

theorem calm_reevaluate (s : State) : Calm s s.reevaluate := by
  unfold State.reevaluate
  split
  · split
    · exact (calm_endWait s _).trans (calm_evaluateHead _)
    · exact .refl
  · exact .refl

theorem calm_retireFirst (s : State) : Calm s s.retireFirst := by
  unfold State.retireFirst
  cases hset : s.release.releasing with
  | nil => exact .refl
  | cons p rest =>
    simp only
    by_cases hdue : (s.release.active && p.markerAcked) = true
    · rw [if_pos hdue]
      rw [Bool.and_eq_true] at hdue
      cases hctx : s.ctx p.context with
      | releasing o f m pl =>
        let moved : State := { s with
          contexts := s.contexts.set p.context .free
          hold := s.hold.filter fun h => h.owner ≠ p.context
          release := { s.release with releasing := rest }
          ring := s.ring.retire s.ringSize s.settings.anchorInterval pl.offset (recordLength (s.entryCount p.context))
            pl.sequence }
        have hmoved : Move s moved := .retired p rest o f m pl hset hctx
        have hstarted := calm_startUpdate moved
        rw [State.startUpdate_eq] at hstarted
        have hretired : Calm s (Releases.retiredState s p.context o pl rest) := by
          refine Calm.beside (c := { moved with
            ring := moved.ring.startChecked moved.mode moved.settings.anchorInterval
            release := { moved.release with presented := s.release.presented.or (readyWrite
              (State.entryCount { s with hold := s.hold.filter fun h => h.owner ≠ p.context }) rest true true) } })
            ((Calm.head hmoved rfl hstarted).tail (.progressed rest _ rfl) rfl) rfl ?_
          refine ⟨fun h => ?_, id⟩
          show (if (s.window o.window).retiredEvent = true then s.push _ else s).events.entries.length ≤ _
          split
          · exact State.push_length_le _ h
          · exact h
        rw [Releases.retire_state rest hdue.1 hctx]
        split
        · exact hretired
        · exact hretired.trans (calm_reevaluate _)
      | _ => unfold State.retire; simp only [hctx]; exact .refl
    · rw [if_neg hdue]

/-! ### The arbiter (R91, R92, R113, R156, R173) -/

/-- The record whose write is presented is the one whose write is taken (R91, R92). -/
theorem popRecordWrite_of_presented {q : DownRequest} {ref : Ref} : ∀ l : List BatchRecord,
    (l.findSome? fun b => b.toIssue.head?.map fun q => (q, Ref.recordWrite b.context)) = some (q, ref) →
    ∃ done more b, l = done ++ b :: more ∧ ref = .recordWrite b.context ∧ popRecordWrite b.context l =
      done ++ { b with toIssue := b.toIssue.tail, unanswered := b.unanswered + 1 } :: more := by
  intro l
  induction l with
  | nil => intro h; cases h
  | cons d l ih =>
    intro h
    rw [List.findSome?_cons] at h
    cases hd : d.toIssue with
    | nil =>
      rw [hd] at h
      obtain ⟨done, more, b, hl, href, hpop⟩ := ih h
      refine ⟨d :: done, more, b, by rw [hl]; rfl, href, ?_⟩
      exact (if_neg fun hdue => hdue.2 hd).trans (congrArg (d :: ·) hpop)
    | cons x xs =>
      rw [hd] at h
      cases h
      exact ⟨[], l, d, rfl, rfl, if_pos ⟨rfl, by rw [hd]; exact List.cons_ne_nil _ _⟩⟩

theorem calm_passRecord (s : State) : Calm s s.passRecord := by
  unfold State.passRecord
  cases hphase : s.recovery.phase with
  | scan k =>
    refine .single (.recovered s.ring.epoch s.ring.generation s.ring.nextCopy _ _ ?_ rfl ?_ ?_) rfl
    · rw [hphase]; rfl
    · rw [hphase]; exact fun h => Bool.noConfusion h
    · intro q hq
      obtain rfl := List.mem_singleton.mp hq
      exact .inl rfl
  | _ => exact .refl

theorem calm_takeSnapshot (s : State) : Calm s { s with ring := s.ring.takeSnapshot } := by
  by_cases hclosing : s.ring.closing = true
  · have hkeep : s.ring.takeSnapshot = s.ring := if_pos hclosing
    rw [hkeep]
  · have htake : s.ring.takeSnapshot = { s.ring with
        snapshot := some ⟨s.ring.retiredOffset, s.ring.retiredSequence, s.ring.unanchored⟩, retirements := 0 } :=
      if_neg hclosing
    rw [htake]
    exact .single (.snapshotTaken (by simpa using hclosing)) rfl

section Grant

variable {s : State} {q : DownRequest} {ref : Ref} (hroom : s.downstream.outstanding.length < Config.outstandingDepth)
include hroom

theorem calm_granted_ingress (h : s.presents .ingress = some (q, ref)) : Calm s ((s.issue .ingress q ref).granted .ingress ref) := by
  unfold State.presents at h
  cases hhand : s.ingress.handOver with
  | nil => simp [hhand] at h
  | cons x rest =>
    simp only [hhand] at h
    split at h
    · cases h
    · cases h
      have hmove := Move.ingressGranted x rest hhand hroom
      have htail : rest = s.ingress.handOver.tail := by rw [hhand]; rfl
      rw [htail] at hmove
      exact .single hmove rfl

theorem calm_granted_writer (h : s.presents .writer = some (q, ref)) : Calm s ((s.issue .writer q ref).granted .writer ref) := by
  have hbatch (h : (s.writer.openBatch.findSome? fun b => b.toIssue.head?.map fun q => (q, Ref.recordWrite b.context)) =
      some (q, ref)) : Calm s ((s.issue .writer q ref).granted .writer ref) := by
    obtain ⟨done, more, b, hl, rfl, hpop⟩ := popRecordWrite_of_presented _ h
    have hmove := Move.writeGranted (s := s) done more b q hl hroom
    rw [← hpop] at hmove
    exact .single hmove rfl
  unfold State.presents Writer.presents at h
  simp only at h
  split at h
  · rename_i contexts hflight
    cases h
    have hmove := Move.flushGranted (s := s) contexts hflight hroom
    have hmap : (some ⟨contexts, false⟩ : Option RecordFlush) = s.writer.flight.map fun f => { f with presented := false } := by
      rw [hflight]; rfl
    rw [hmap] at hmove
    exact .single hmove rfl
  · exact hbatch h

theorem calm_granted_ring (h : s.presents .ring = some (q, ref)) : Calm s ((s.issue .ring q ref).granted .ring ref) := by
  have hmem : (q, ref) ∈ s.ring.toIssue := List.mem_of_head? h
  have hissued : Calm s { s.issue .ring q ref with ring := { s.ring with toIssue := s.ring.toIssue.tail } } :=
    (Calm.single (.issued .ring q ref hroom (.inl hmem)) rfl).tail .ringIssued rfl
  cases ref with
  | homeFlush => exact hissued.trans (calm_takeSnapshot _)
  | _ => exact hissued

theorem calm_granted_release (h : s.presents .release = some (q, ref)) :
    Calm s ((s.issue .release q ref).granted .release ref) := by
  obtain ⟨w, -, hw⟩ := Option.bind_eq_some_iff.mp h
  have href := Grants.releaseRequest_ref hw
  cases w with
  | line c =>
    obtain rfl : ref = .releaseLine c := href
    exact .head (.issued .release q _ hroom (.inr (.inr rfl))) rfl (calm_releaseGranted (s.issue .release q _) (.line c))
  | marker c =>
    obtain rfl : ref = .releaseMarker c := href
    exact .head (.issued .release q _ hroom (.inr (.inr rfl))) rfl (calm_releaseGranted (s.issue .release q _) (.marker c))

theorem calm_granted_recovery (h : s.presents .recovery = some (q, ref)) :
    Calm s ((s.issue .recovery q ref).granted .recovery ref) := by
  have hmem : (q, ref) ∈ s.recovery.toIssue := List.mem_of_head? h
  have hissued : Calm s { s.issue .recovery q ref with recovery := { s.recovery with toIssue := s.recovery.toIssue.tail } } :=
    (Calm.single (.issued .recovery q ref hroom (.inr (.inl hmem))) rfl).tail .recoveryIssued rfl
  cases ref with
  | replayMarker => exact hissued.trans (calm_passRecord _)
  | _ => exact hissued

end Grant

theorem calm_arbiterGrant (s : State) : Calm s s.arbiterGrant := by
  unfold State.arbiterGrant
  by_cases hroom : s.downstream.outstanding.length < Config.outstandingDepth
  · rw [if_pos hroom]
    cases hfirst : s.firstReady with
    | none => exact .refl
    | some x =>
      obtain ⟨p, q, ref⟩ := x
      obtain ⟨p', -, hp'⟩ := List.exists_of_findSome?_eq_some hfirst
      obtain ⟨y, hy, he⟩ := Option.map_eq_some_iff.mp hp'
      cases he
      cases p with
      | ingress => exact calm_granted_ingress hroom hy
      | writer => exact calm_granted_writer hroom hy
      | ring => exact calm_granted_ring hroom hy
      | release => exact calm_granted_release hroom hy
      | recovery => exact calm_granted_recovery hroom hy
  · rw [if_neg hroom]

end Sys2Proof.Proofs.Steps
end

section
/-! PROOF. What a command tells of a change of the mode, and what an answer of the memory comes to. -/

namespace Sys2Proof.Proofs.Steps
open Sys2Proof Sys2Proof.Machine Sys2Proof.Proofs.Faults Sys2Proof.Proofs.RecoveryEnd Sys2Proof.Proofs.JournalWriter

/-! ### The events of a change of the mode (R177) -/

/-- The events pushed on the way from a state to another, of which the MODE_CHANGEs are the listed ones. -/
structure Told (s t : State) (changes : List (Mode × Mode)) : Prop where
  events : ∃ bodies : List EventBody, t.events = (s.pushAll bodies).events ∧ bodies.filterMap EventBody.modeChange? = changes
  timebase : t.timebase = s.timebase

theorem Told.of_same {s t : State} (he : t.events = s.events) (ht : t.timebase = s.timebase) : Told s t [] :=
  ⟨⟨[], he, rfl⟩, ht⟩

theorem Told.refl (s : State) : Told s s [] := .of_same rfl rfl

theorem Told.of_pushAll {s t : State} {bodies : List EventBody} {l : List (Mode × Mode)}
    (he : t.events = (s.pushAll bodies).events) (ht : t.timebase = s.timebase)
    (hl : bodies.filterMap EventBody.modeChange? = l) : Told s t l := ⟨⟨bodies, he, hl⟩, ht⟩

theorem Told.trans {s t u : State} {l₁ l₂ : List (Mode × Mode)} (h : Told s t l₁) (g : Told t u l₂) : Told s u (l₁ ++ l₂) := by
  obtain ⟨⟨as, has, hl₁⟩, ht⟩ := h
  obtain ⟨⟨bs, hbs, hl₂⟩, hu⟩ := g
  exact .of_pushAll (hbs.trans (pushAll_events_append bs has ht)) (hu.trans ht) (by rw [List.filterMap_append, hl₁, hl₂])

theorem told_push (s : State) (b : EventBody) (h : b.modeChange? = none) : Told s (s.push b) [] :=
  .of_pushAll (bodies := [b]) rfl (State.push_timebase s b) (by rw [List.filterMap_cons_none h]; rfl)

theorem told_foldl {α : Type} {f : State → α → State} (hf : ∀ s x, Told s (f s x) []) (l : List α) : ∀ s : State,
    Told s (l.foldl f s) [] := by
  induction l with
  | nil => exact fun s => .refl s
  | cons x l ih => exact fun s => (hf s x).trans (ih _)

theorem told_setMode (s : State) (m : Mode) : Told s (s.setMode m) [(m, s.mode)] := by
  have hevents : (s.setMode m).events = (s.push (.modeChange m s.mode)).events := by
    cases m <;> simp [State.setMode]
  have htime : (s.setMode m).timebase = s.timebase := by
    cases m <;> simp [State.setMode]
  exact .of_pushAll (bodies := [.modeChange m s.mode]) hevents htime rfl

theorem openFailures_modeChanges (s : State) (r : FailReason) : (s.openFailures r).filterMap EventBody.modeChange? = [] := by
  unfold State.openFailures
  rw [List.filterMap_filterMap, List.filterMap_eq_nil_iff]
  intro c _
  cases s.ctx c <;> rfl

theorem told_failOpen (s : State) (r : FailReason) : Told s (s.failOpen r) [] := by
  obtain ⟨v, -, hfail⟩ := failOpen_record s r
  rw [hfail]
  exact .of_pushAll rfl rfl (openFailures_modeChanges s r)

/-- A journal fault leaves any other context than a QUEUED or WRITING one. -/
theorem freeOnFault_of_not {s : State} {c : ContextIx}
    (h : ¬((s.ctx c).isQueued = true ∨ (s.ctx c).isWriting = true)) : s.freeOnFault c = s := by
  rw [not_or] at h
  obtain ⟨hqueued, hwriting⟩ := h
  unfold State.freeOnFault
  cases hctx : s.ctx c with
  | queued => rw [hctx] at hqueued; exact absurd rfl hqueued
  | writing => rw [hctx] at hwriting; exact absurd rfl hwriting
  | _ => rfl

theorem told_freeOnFault (s : State) (c : ContextIx) : Told s (s.freeOnFault c) [] := by
  by_cases hsealing : (s.ctx c).isQueued = true ∨ (s.ctx c).isWriting = true
  · obtain ⟨b, hb, hfree⟩ := State.freeOnFault_eq hsealing
    have hnone : b.modeChange? = none := by
      unfold State.sealingFailure at hb
      cases hctx : s.ctx c <;> simp only [hctx, reduceCtorEq, Option.some.injEq] at hb <;> rw [← hb] <;> rfl
    rw [hfree]
    refine Told.trans (l₁ := []) (l₂ := []) ?_ (told_push _ b hnone)
    exact .of_same rfl rfl
  · rw [freeOnFault_of_not hsealing]
    exact .refl s

theorem told_enterFaulted {s : State} (h : s.mode ≠ .faulted) : Told s s.enterFaulted [(.faulted, s.mode)] := by
  unfold State.enterFaulted
  rw [if_neg h]
  exact (told_setMode s .faulted).trans (.of_same rfl rfl)

theorem told_checkFlush (s : State) : Told s s.checkFlush [] := by
  unfold State.checkFlush
  split
  · exact .of_same rfl rfl
  · exact .refl s

/-! ### What an answer comes to (R97, R131, R159) -/

/-- What a fault is a fault of: a request of the ACTIVE writer, a write of a releasing context, a request of an anchor update, or
one of a recovery. -/
inductive FaultCause (s : State) : Prop
  | writer (hactive : s.writer.active = true) (e : OutEntry) (hmem : e ∈ s.downstream.outstanding) (hport : e.ref.port = .writer)
  | release (hactive : s.release.active = true) (c : ContextIx) (hctx : (s.ctx c).isReleasing = true)
  | update (hbusy : s.ring.update ≠ .idle) (hclosing : s.ring.closing = false)
  | recovery (h : s.recovery.phase.isCleared = true ∨ s.ring.closing = true)

/-- A fault, and what it tells. -/
structure Fault (s t : State) : Prop where
  moves : Moves s t
  mode : t.mode = .faulted
  told : s.mode ≠ .faulted → Told s t [(.faulted, s.mode)]
  cause : FaultCause s

/-- What an answer of the memory comes to, but for the one that completes an anchor update. -/
inductive Answered (s t : State) : Prop
  | calm (h : Calm s t)
  | fault (h : Fault s t)

theorem Answered.moves {s t : State} : Answered s t → Moves s t
  | .calm h => h.moves
  | .fault h => h.moves

/-- An answer after moves that tell nothing. -/
theorem Answered.after {s u t : State} (h : Calm s u) (htold : Told s u []) (hcause : FaultCause u → FaultCause s)
    (g : Answered u t) : Answered s t := by
  cases g with
  | calm g => exact .calm (h.trans g)
  | fault g =>
    refine .fault ⟨h.moves.trans g.moves, g.mode, fun hmode => ?_, hcause g.cause⟩
    have hafter := htold.trans (g.told (by rw [h.mode]; exact hmode))
    rw [h.mode] at hafter
    exact hafter

theorem told_journalFault {s : State} (d : JournalDetail) (a : Option Addr) (q : Option Word64) (h : s.mode ≠ .faulted) :
    Told s (s.journalFault d a q) [(.faulted, s.mode)] := by
  have hentered : Told s ((s.push (.journalFault q d a s.sealing.length)).stopWriter).enterFaulted [(.faulted, s.mode)] := by
    have hstopped : Told s ((s.push (.journalFault q d a s.sealing.length)).stopWriter) [] :=
      (told_push s _ rfl).trans (.of_same rfl rfl)
    have hmode : ((s.push (.journalFault q d a s.sealing.length)).stopWriter).mode = s.mode := State.push_mode s _
    have hafter := told_enterFaulted (s := (s.push (.journalFault q d a s.sealing.length)).stopWriter) (by rw [hmode]; exact h)
    rw [hmode] at hafter
    exact hstopped.trans hafter
  have hfreed := hentered.trans (told_foldl told_freeOnFault s.sealing _)
  unfold State.journalFault
  simp only
  generalize s.sealing.foldl State.freeOnFault _ = u at hfreed ⊢
  have hemptied : Told s { u with writer := { u.writer with commitQueue := [], openBatch := [], flight := none } }
      [(.faulted, s.mode)] := hfreed.trans (l₂ := []) (.of_same rfl rfl)
  exact hemptied.trans (told_failOpen _ .journal)

theorem told_releaseFaultEffects {s : State} (h : s.mode ≠ .faulted) : Told s s.releaseFaultEffects [(.faulted, s.mode)] := by
  have hhalted : Told s s.haltRelease [] := .of_same rfl rfl
  have hentered : Told s s.haltRelease.enterFaulted [(.faulted, s.mode)] := hhalted.trans (told_enterFaulted h)
  exact (hentered.trans (told_failOpen _ .journal)).trans (told_checkFlush _)

theorem told_recoveryFault (s : State) (d : RecoveryDetail) (a : Option Addr) :
    Told s (s.recoveryFault d a) [(.faulted, s.mode)] := by
  rw [recoveryFault_eq (s₀ := s) rfl rfl]
  exact .of_pushAll rfl rfl rfl

end Sys2Proof.Proofs.Steps
end

section
/-! PROOF. The moves of the faults, the drain, the warm reset and the end of a recovery. -/

namespace Sys2Proof.Proofs.Steps
open Sys2Proof Sys2Proof.Machine Sys2Proof.Proofs.Faults Sys2Proof.Proofs.RecoveryEnd Sys2Proof.Proofs.JournalWriter

/-! ### Contexts that leave OPEN, QUEUED and WRITING (R37, R38, R39) -/

theorem heldAfter_nil (s : State) : heldAfter s [] = s.hold.filter fun h => !(s.ctx h.owner).isOpen := by
  unfold heldAfter
  refine List.filter_congr fun h _ => ?_
  simp

theorem failsOpen_nil {s : State} {v : Vector Context 16} {r : FailReason} {now : Word64} {orphan : Nat}
    (hv : ∀ x : ContextIx, v[x] = (s.ctx x).failedBy r now orphan) : FailsOpen s [] v :=
  fun x => ⟨fun h => absurd h.1 List.not_mem_nil, fun _ => ⟨r, now, orphan, hv x⟩⟩

/-- Whether a context is one that a journal fault frees (R38). -/
def sealingBy (l : List ContextIx) (s : State) (x : ContextIx) : Bool :=
  decide (x ∈ l) && ((s.ctx x).isQueued || (s.ctx x).isWriting)

/-- A state in which those of the listed contexts that were QUEUED or WRITING have gone FREE with their slots (R38). -/
structure Freed (l : List ContextIx) (s t : State) : Prop where
  ctx : ∀ x, t.ctx x = if sealingBy l s x then .free else s.ctx x
  hold : t.hold = s.hold.filter fun h => !sealingBy l s h.owner
  rest : t = besides { s with contexts := t.contexts, hold := t.hold } t
  bounded : StaysBounded s t

theorem freed_freeOnFault (s : State) (c : ContextIx) : Freed [c] s (s.freeOnFault c) := by
  by_cases hsealing : (s.ctx c).isQueued = true ∨ (s.ctx c).isWriting = true
  · obtain ⟨b, -, hfree⟩ := State.freeOnFault_eq hsealing
    rw [Ingress.afterFailure_noneLeft] at hfree
    have hby (x : ContextIx) : sealingBy [c] s x = decide (x = c) := by
      unfold sealingBy
      by_cases hx : x = c
      · subst hx; simpa [Bool.or_eq_true] using hsealing
      · simp [hx]
    refine ⟨fun x => ?_, ?_, ?_, ?_⟩
    · have hset : (s.setCtx c .free).ctx x = if c = x then .free else s.ctx x := State.setCtx_ctx s c x .free
      rw [hby, hfree, State.push_ctx]
      refine hset.trans ?_
      by_cases hx : c = x
      · rw [if_pos hx, if_pos (by simp [hx])]
      · rw [if_neg hx, if_neg (by simpa using Ne.symm hx)]
    · rw [hfree, State.push_hold]
      exact List.filter_congr fun h _ => by rw [hby]; simp
    · rw [hfree, State.push_eq]; rfl
    · rw [hfree]
      exact ⟨fun h => State.push_length_le b h, fun h => by rw [State.push_ingress]; exact h⟩
  · have hnone (x : ContextIx) : sealingBy [c] s x = false := by
      unfold sealingBy
      by_cases hx : x = c
      · subst hx; simpa [not_or] using hsealing
      · simp [hx]
    rw [freeOnFault_of_not hsealing]
    refine ⟨fun x => by rw [hnone]; rfl, ?_, rfl, .of_eq rfl rfl⟩
    exact (List.filter_eq_self.mpr fun h _ => by rw [hnone]; rfl).symm

theorem Freed.cons {c : ContextIx} {l : List ContextIx} {s u t : State} (h : Freed [c] s u) (g : Freed l u t) :
    Freed (c :: l) s t := by
  have hby (x : ContextIx) : sealingBy (c :: l) s x = (sealingBy [c] s x || sealingBy l u x) := by
    unfold sealingBy
    rw [h.ctx x]
    unfold sealingBy
    by_cases hx : x = c
    · subst hx
      cases hs : ((s.ctx x).isQueued || (s.ctx x).isWriting) <;> simp [hs]
    · simp [hx]
  refine ⟨fun x => ?_, ?_, ?_, ?_⟩
  · rw [g.ctx x, h.ctx x, hby]
    cases sealingBy [c] s x <;> cases sealingBy l u x <;> rfl
  · rw [g.hold, h.hold, List.filter_filter]
    refine List.filter_congr fun x _ => ?_
    rw [hby, Bool.not_or, Bool.and_comm]
  · have hrest := congrArg (fun z : State => besides { z with contexts := t.contexts, hold := t.hold } t) h.rest
    exact g.rest.trans hrest
  · exact ⟨fun x => g.bounded.events (h.bounded.events x), fun x => g.bounded.queue (h.bounded.queue x)⟩

theorem freed_foldl (l : List ContextIx) : ∀ s : State, Freed l s (l.foldl State.freeOnFault s) := by
  induction l with
  | nil =>
    refine fun s => ⟨fun x => rfl, ?_, rfl, .of_eq rfl rfl⟩
    exact (List.filter_eq_self.mpr fun h _ => by simp [sealingBy]).symm
  | cons c l ih => exact fun s => (freed_freeOnFault s c).cons (ih _)

/-! ### The faults (R97, R131, R159) -/

/-- The failure of every OPEN context (R37, R38, R39). -/
structure OpenFailed (s t : State) : Prop where
  ctx : ∀ x, ∃ r now orphan, t.ctx x = (s.ctx x).failedBy r now orphan
  hold : t.hold = s.hold.filter fun h => !(s.ctx h.owner).isOpen
  rest : t = besides { s with contexts := t.contexts, hold := t.hold } t
  bounded : StaysBounded s t

theorem openFailed_failOpen (s : State) (r : FailReason) : OpenFailed s (s.failOpen r) := by
  obtain ⟨v, hv, hfail⟩ := failOpen_record s r
  refine ⟨fun x => ⟨r, s.timebase, s.settings.orphanTimeout, ?_⟩, ?_, ?_, ?_⟩
  · rw [hfail]; exact hv x
  · rw [hfail]
  · rw [hfail]; rfl
  · rw [hfail]; exact .of_pushAll rfl rfl (Nat.le_refl _)

/-- The state of a journal fault, but for what no law reads (R38, R97). -/
def journalFaulted (s : State) (v : Vector Context 16) : State :=
  { s with
    mode := .faulted, contexts := v, hold := heldAfter s s.sealing, ring := stoppedRing s.ring
    writer := ⟨false, [], [], none⟩ }

theorem journalFault_record (s : State) (d : JournalDetail) (a : Option Addr) (q : Option Word64) :
    FailsOpen s s.sealing (s.journalFault d a q).contexts ∧
      s.journalFault d a q = besides (journalFaulted s (s.journalFault d a q).contexts) (s.journalFault d a q) ∧
      StaysBounded s (s.journalFault d a q) := by
  generalize hb : EventBody.journalFault q d a s.sealing.length = b
  let pushed : State := { s with events := (s.push b).events }
  let start := faultEntered pushed.stopWriter .journal
  have hstart : (s.push b).stopWriter.enterFaulted = start := by
    have hpush : s.push b = pushed := State.push_eq s b
    rw [hpush]
    exact enterFaulted_eq _ _
  have hfreed : Freed s.sealing start _ := freed_foldl s.sealing start
  generalize hu : s.sealing.foldl State.freeOnFault start = u at hfreed
  let emptied : State := { u with writer := { u.writer with commitQueue := [], openBatch := [], flight := none } }
  have hfailed : OpenFailed emptied _ := openFailed_failOpen emptied .journal
  have hfault : s.journalFault d a q = emptied.failOpen .journal := by
    rw [← hstart, ← hb] at hu
    exact congrArg (fun z : State => State.failOpen
      { z with writer := { z.writer with commitQueue := [], openBatch := [], flight := none } } .journal) hu
  rw [hfault]
  generalize emptied.failOpen .journal = t at hfailed
  have hsealing (x : ContextIx) : sealingBy s.sealing start x = true ↔
      x ∈ s.sealing ∧ ((s.ctx x).isQueued = true ∨ (s.ctx x).isWriting = true) := by
    simp only [sealingBy, Bool.and_eq_true, decide_eq_true_eq, Bool.or_eq_true]
    rfl
  have hctx (x : ContextIx) : emptied.ctx x = if sealingBy s.sealing start x then .free else s.ctx x := hfreed.ctx x
  refine ⟨fun x => ⟨fun hx => ?_, fun hx => ?_⟩, ?_, ?_⟩
  · obtain ⟨r, now, orphan, hr⟩ := hfailed.ctx x
    rw [hctx, if_pos ((hsealing x).mpr hx)] at hr
    exact hr
  · obtain ⟨r, now, orphan, hr⟩ := hfailed.ctx x
    rw [hctx, if_neg fun h => hx ((hsealing x).mp h)] at hr
    exact ⟨r, now, orphan, hr⟩
  · have hhold : t.hold = heldAfter s s.sealing := by
      rw [hfailed.hold]
      refine (congrArg (List.filter _) hfreed.hold).trans ?_
      rw [List.filter_filter]
      refine List.filter_congr fun h _ => ?_
      rw [hctx]
      by_cases hby : sealingBy s.sealing start h.owner = true
      · have hsome : (decide (h.owner ∈ s.sealing) && ((s.ctx h.owner).isQueued || (s.ctx h.owner).isWriting)) = true := hby
        rw [hby, hsome]
        simp
      · rw [Bool.not_eq_true] at hby
        have hnone : (decide (h.owner ∈ s.sealing) && ((s.ctx h.owner).isQueued || (s.ctx h.owner).isWriting)) = false := hby
        rw [hby, hnone]
        simp
    have hrest := congrArg (fun z : State => besides { z with
      writer := { z.writer with commitQueue := [], openBatch := [], flight := none }
      contexts := t.contexts, hold := t.hold } t) hfreed.rest
    refine (hfailed.rest.trans hrest).trans ?_
    rw [hhold]
    rfl
  · have hpushed : s.events.entries.length ≤ 64 → start.events.entries.length ≤ 64 := fun h =>
      pushAll_length_le _ (State.push_length_le b h)
    exact ⟨fun h => hfailed.bounded.events (hfreed.bounded.events (hpushed h)),
      fun h => hfailed.bounded.queue (hfreed.bounded.queue h)⟩

/-- An anchor fault is a journal fault of the update in flight (R117). -/
theorem fault_anchorFault {s : State} (d : JournalDetail) (a : Option Addr) (hbusy : s.ring.update ≠ .idle)
    (hclosing : s.ring.closing = false) : Fault s (s.anchorFault d a) := by
  obtain ⟨hctx, hrecord, hbounded⟩ :=
    journalFault_record s.abandonUpdate d a (s.ring.snapshot.map Snapshot.sequence)
  have htold := told_journalFault (s := s.abandonUpdate) d a (s.ring.snapshot.map Snapshot.sequence)
  unfold State.anchorFault
  generalize s.abandonUpdate.journalFault d a (s.ring.snapshot.map Snapshot.sequence) = t at hctx hrecord hbounded htold
  have hfault : Move s (journalFaulted s t.contexts) := .journalFault _ hctx (.inr ⟨hbusy, hclosing⟩)
  exact {
    moves := hfault.thenBeside hrecord ⟨hbounded.events, hbounded.queue⟩
    mode := congrArg State.mode hrecord
    told := fun hmode => (Told.of_same (s := s) (t := s.abandonUpdate) rfl rfl).trans (htold hmode)
    cause := .update hbusy hclosing }

/-- A journal fault of the writer's own request (R97). -/
theorem fault_journalFault_removed {s : State} {tag : XferTag} {e : OutEntry} (d : JournalDetail) (a : Option Addr)
    (q : Option Word64) (hentry : s.entry tag = some e) (hport : e.ref.port = .writer) (hactive : s.writer.active = true) :
    Fault s ((s.removeEntry tag).journalFault d a q) := by
  obtain ⟨hctx, hrecord, hbounded⟩ := journalFault_record (s.removeEntry tag) d a q
  have htold := told_journalFault (s := s.removeEntry tag) d a q
  generalize (s.removeEntry tag).journalFault d a q = t at hctx hrecord hbounded htold
  have hfault : Move s (journalFaulted s t.contexts) := .journalFault _ hctx (.inl hactive)
  have hremoved : Move (journalFaulted s t.contexts) ((journalFaulted s t.contexts).removeEntry tag) :=
    .removed tag e hentry (fun id h => by rw [h] at hport; cases hport) (fun k h => by rw [h] at hport; cases hport)
      (fun _ => .inl rfl)
  exact {
    moves := Moves.beside ((Relation.ReflTransGen.single hfault).tail hremoved) hrecord ⟨hbounded.events, hbounded.queue⟩
    mode := congrArg State.mode hrecord
    told := fun hmode => (Told.of_same (s := s) (t := s.removeEntry tag) rfl rfl).trans (htold hmode)
    cause := .writer hactive e (List.mem_of_find?_eq_some hentry) hport }

theorem answered_releaseFault (s : State) (c : ContextIx) (d : ReleaseDetail) (a : Option Addr) (hactive : s.release.active = true) :
    Answered s (s.releaseFault c d a) := by
  have heffects (u : State) (hactive : u.release.active = true) : Moves u u.releaseFaultEffects ∧
      u.releaseFaultEffects.mode = .faulted := by
    obtain ⟨v, hv, hfail⟩ := failOpen_enterFaulted u.haltRelease .journal
    have hflush := calm_checkFlush (u.haltRelease.enterFaulted.failOpen .journal)
    refine ⟨Relation.ReflTransGen.trans ?_ hflush.moves, hflush.mode.trans (by rw [hfail])⟩
    rw [hfail]
    have hfault := Move.releaseFault (s := u) v (failsOpen_nil hv) hactive
    rw [heldAfter_nil] at hfault
    exact hfault.thenBeside rfl (.of_pushAll (u := u.haltRelease) rfl rfl (Nat.le_refl _))
  unfold State.releaseFault
  cases hctx : s.ctx c with
  | releasing o f m pl =>
    have hpush := calm_push s (.releaseFault c o.initiator o.window pl.sequence d a)
    have htold := told_push s (.releaseFault c o.initiator o.window pl.sequence d a) rfl
    have hstays : (s.push (.releaseFault c o.initiator o.window pl.sequence d a)).release.active = true := by
      rw [State.push_release]; exact hactive
    simp only
    generalize s.push (.releaseFault c o.initiator o.window pl.sequence d a) = u at hpush htold hstays
    obtain ⟨hmoves, hmode⟩ := heffects u hstays
    refine .fault ⟨hpush.moves.trans hmoves, hmode, fun h => ?_, .release hactive c (by rw [hctx]; rfl)⟩
    have hafter := htold.trans (told_releaseFaultEffects (s := u) (by rw [hpush.mode]; exact h))
    rw [hpush.mode] at hafter
    exact hafter
  | _ => exact .calm .refl

theorem fault_recoveryFault (s : State) (d : RecoveryDetail) (a : Option Addr)
    (hwhy : s.recovery.phase.isCleared = true ∨ s.ring.closing = true) : Fault s (s.recoveryFault d a) where
  moves := by
    rw [recoveryFault_eq (s₀ := s) rfl rfl]
    exact (Move.recoveryFault hwhy).thenBeside rfl (.of_pushAll rfl rfl (Nat.le_refl _))
  mode := by rw [recoveryFault_eq (s₀ := s) rfl rfl]
  told := fun _ => told_recoveryFault s d a
  cause := .recovery hwhy

theorem fault_updateError {s : State} (d : JournalDetail) (a : Option Addr) (hbusy : s.ring.update ≠ .idle) :
    Fault s (s.updateError d a) := by
  unfold State.updateError
  by_cases hclosing : s.ring.closing = true
  · rw [if_pos hclosing]; exact fault_recoveryFault s _ _ (.inr hclosing)
  · rw [if_neg hclosing]; exact fault_anchorFault d _ hbusy (by simpa using hclosing)

/-! ### The drain (R181, R183, R184) -/

/-- The entry to DRAINING from a state that differs from one in ONLINE in its mode and in what no law reads. -/
theorem moves_enterDraining (u x : State) (m : Mode) (hmode : u.mode = .online) (hbounded : StaysBounded u x) :
    Moves u (State.enterDraining (besides { u with mode := m } x)) := by
  obtain ⟨v, hv, henter⟩ := enterDraining_eq (besides { u with mode := m } x)
  rw [henter]
  refine Relation.ReflTransGen.trans ?_ (moves_drainCheck _)
  let entered : State := { u with mode := .draining, contexts := v, hold := heldAfter u [] }
  have hentered : Move u entered := .drainEntered v (failsOpen_nil hv) hmode
  have htrigger := (calm_drainTrigger entered).moves
  rw [drainTrigger_eq] at htrigger
  refine Moves.beside (.head hentered htrigger) ?_ ⟨fun h => ?_, hbounded.queue⟩
  · have hheld : heldAfter u [] = _ := heldAfter_nil u
    show _ = besides { entered with ring := drainRing u.ring u.settings.anchorInterval } _
    simp only [entered, hheld]
    rfl
  · exact pushAll_length_le (s := besides { u with mode := m } x) _ (hbounded.events h)

theorem moves_setMode_online {s : State} (hmode : s.mode = .draining ∨ s.mode = .drained) : Moves s (s.setMode .online) := by
  rw [setMode_of_carriesCommits s (.inl rfl)]
  exact (Move.drainLeft hmode).thenBeside rfl ⟨fun h => State.push_length_le _ h, id⟩

theorem moves_assertPfwarn (s : State) : Moves s s.assertPfwarn := by
  unfold State.assertPfwarn
  by_cases hlevel : s.pfwarn = true
  · rw [if_pos hlevel]
  · rw [if_neg hlevel]
    have hlatched : Moves s { s with pfwarn := true } := Moves.beside .refl rfl (.of_eq rfl rfl)
    simp only
    split
    · rename_i hmode
      exact moves_enterDraining s { s with pfwarn := true } s.mode hmode (.of_eq rfl rfl)
    all_goals exact hlatched

theorem moves_deassertPfwarn (s : State) : Moves s s.deassertPfwarn := by
  unfold State.deassertPfwarn
  by_cases hlevel : s.pfwarn = true
  · rw [if_pos hlevel]
    have hlatched : Moves s { s with pfwarn := false } := Moves.beside .refl rfl (.of_eq rfl rfl)
    have honline (h : s.mode = .draining ∨ s.mode = .drained) :
        Moves s (State.setMode { s with pfwarn := false } .online).startUpdate :=
      hlatched.trans ((moves_setMode_online (s := { s with pfwarn := false }) h).trans (calm_startUpdate _).moves)
    simp only
    split
    · rename_i hmode
      exact honline (.inl hmode)
    · rename_i hmode
      exact honline (.inr hmode)
    all_goals exact hlatched
  · rw [if_neg hlevel]

/-! ### Warm reset, START and the end of a recovery (R140, R146, R148, R158) -/

theorem moves_beginWarmReset (s : State) : Moves s s.beginWarmReset := by
  obtain ⟨v, hv, hreset⟩ := RecoveryPath.beginWarmReset_eq s
  rw [hreset]
  exact (Move.warmReset v hv).thenBeside rfl ⟨fun h => State.push_length_le _ h, fun _ => Nat.zero_le _⟩

theorem moves_startRecovery {s : State} (format : Bool) (hmode : s.mode = .init) : Moves s (s.startRecovery format) := by
  have hset : s.setMode .recovering = { s with
      events := (s.push (.modeChange .recovering s.mode)).events, mode := .recovering } := by
    unfold State.setMode
    rw [State.push_eq]
  unfold State.startRecovery
  rw [hset]
  refine (Move.started format _ hmode fun q hq => ?_).thenBeside rfl ⟨fun h => State.push_length_le _ h, id⟩
  rcases List.mem_pair.mp hq with rfl | rfl <;> rfl

theorem calm_clearForRecovery (s : State) : Calm s s.clearForRecovery := by
  unfold State.clearForRecovery
  by_cases hquiesced : s.quiesced = true
  · rw [if_pos hquiesced]
    refine .single (.cleared _ hquiesced fun q hq => ?_) rfl
    rcases List.mem_pair.mp hq with rfl | rfl <;> rfl
  · rw [if_neg hquiesced]

/-- The end of recovery, from the acknowledged anchor FLUSH of the closing update (R120, R158). -/
theorem comes_finishRecovery {s : State} {tag : XferTag} {e : OutEntry} {k : Close} (hentry : s.entry tag = some e)
    (href : e.ref = .anchorFlush) (hphase : s.recovery.phase = .close k) (hclosing : s.ring.closing = true) :
    Comes s (State.finishRecovery { s.removeEntry tag with ring := s.ring.resume k } k) := by
  have hfinish := Finish.finished tag e k hentry href hphase hclosing
  have hbounded : StaysBounded s (engineRestart (s.removeEntry tag) k) :=
    ⟨fun h => State.push_length_le (s := s.removeEntry tag) _ h, id⟩
  refine .inr ⟨_, hfinish, ?_⟩
  have hend := finishRecovery_resumed (s.removeEntry tag) k
  refine Eq.mpr (congrArg (Moves _) hend) ?_
  by_cases hlevel : (s.removeEntry tag).pfwarn = true
  · rw [if_pos hlevel]
    exact moves_enterDraining _ (engineRestart (s.removeEntry tag) k) s.mode rfl ⟨hbounded.events, hbounded.queue⟩
  · rw [if_neg hlevel, setMode_of_carriesCommits _ (.inl rfl)]
    refine Moves.beside .refl rfl ⟨fun h => ?_, id⟩
    exact State.push_length_le (s := engineRestart (s.removeEntry tag) k) _ (hbounded.events h)

end Sys2Proof.Proofs.Steps
end

section
/-! PROOF. The moves of the answers of the memory and of the management port, and of every step. -/

namespace Sys2Proof.Proofs.Steps
open Sys2Proof Sys2Proof.Machine Sys2Proof.Proofs.Faults Sys2Proof.Proofs.RecoveryEnd Sys2Proof.Proofs.JournalWriter

/-! ### Answers to the ingress side (R73, R169) -/

section Answer

variable {s : State} {tag : XferTag} {e : OutEntry} (hentry : s.entry tag = some e)
include hentry

theorem calm_countAnswer {id : Nat} (href : e.ref = .pendingAnswer id) (kind : DownKind) (r : DownResponse) :
    Calm s ((s.removeEntry tag).countAnswer id kind r) := by
  unfold State.countAnswer
  simp only [State.removeEntry_ingress]
  cases hfind : s.ingress.answers.find? fun p => p.id = id with
  | none =>
    refine .single (.removed tag e hentry (fun id' h => ?_) (fun k h => ?_) fun h => ?_) rfl
    · rw [href] at h; cases h; exact hfind
    · rw [href] at h; cases h
    · rw [href] at h; cases h
  | some p =>
    have hid : p.id = id := by simpa using List.find?_some hfind
    subst hid
    simp only
    by_cases hlast : p.remaining ≤ 1
    · rw [if_pos hlast]
      have hmove := Move.answered tag e p hentry href (List.mem_of_find?_eq_some hfind) hlast
      generalize (p.failed || decide (r = .error)) = failed
      split <;> exact hmove.calmBeside rfl rfl (.of_eq rfl rfl)
    · rw [if_neg hlast]
      exact .single (.counted tag e p _ hentry href (List.mem_of_find?_eq_some hfind) (Nat.not_le.mp hlast)) rfl

theorem calm_completeRead {k : EntryNo} (href : e.ref = .tracking k) (r : DownResponse) :
    Calm s ((s.removeEntry tag).completeRead k r) := by
  unfold State.completeRead
  have htrack : (s.removeEntry tag).trackEntry k = s.trackEntry k := rfl
  rw [htrack]
  cases hk : s.trackEntry k with
  | none =>
    refine .single (.removed tag e hentry (fun id' h => ?_) (fun k' h => ?_) fun h => ?_) rfl
    · rw [href] at h; cases h
    · rw [href] at h; cases h; exact hk
    · rw [href] at h; cases h
  | some x =>
    simp only
    refine Calm.trans ?_ (calm_endWait _ _)
    exact (Move.readEnded tag e k hentry href).calmBeside rfl rfl (.of_eq rfl rfl)

/-! ### Answers to the journal writer (R92, R94, R96, R98) -/

/-- A STOPPED writer absorbs an answer (R98). -/
theorem calm_removed_writer (hport : e.ref.port = .writer)
    (habsorbed : s.writer.active = false ∨ e.ref = .recordFlush ∧ s.writer.flight = none) : Calm s (s.removeEntry tag) :=
  .single (.removed tag e hentry (fun id h => by rw [h] at hport; cases hport) (fun k h => by rw [h] at hport; cases hport)
    fun _ => habsorbed) rfl

/-- An answer to the ring manager, the release engine or the recovery engine leaves the port (R172). -/
theorem calm_removed_other (hingress : e.ref.port ≠ .ingress) (hwriter : e.ref.port ≠ .writer) : Calm s (s.removeEntry tag) :=
  .single (.removed tag e hentry (fun id h => absurd (by rw [h]; rfl) hingress) (fun k h => absurd (by rw [h]; rfl) hingress)
    fun h => absurd h hwriter) rfl

theorem answered_recordWriteAnswer {c : ContextIx} (href : e.ref = .recordWrite c) (a : Option Addr) (r : DownResponse) :
    Answered s ((s.removeEntry tag).recordWriteAnswer c a r) := by
  have hport : e.ref.port = .writer := by rw [href]; rfl
  unfold State.recordWriteAnswer
  by_cases hactive : s.writer.active = true
  · rw [if_pos (by exact hactive)]
    cases r with
    | ack data => exact .calm (.head (.writeAcknowledged tag e c hentry href) rfl (calm_checkFlush _))
    | error => exact .fault (fault_journalFault_removed _ _ _ hentry hport hactive)
  · rw [if_neg (by exact hactive)]
    exact .calm (calm_removed_writer hentry hport (.inl (by simpa using hactive)))

/-- A state in which the listed contexts that were WRITING have become DURABLE and joined the release queue (R94). -/
structure MadeDurable (l : List ContextIx) (s t : State) : Prop where
  ctx : ∀ x, t.ctx x = if x ∈ l then durableOf (s.ctx x) else s.ctx x
  queue : l.Nodup → (∀ c ∈ l, (s.ctx c).isWriting = true) → t.release.queue = s.release.queue ++ l
  rest : t = besides { s with contexts := t.contexts, release := { s.release with queue := t.release.queue } } t
  bounded : StaysBounded s t

omit hentry in
theorem madeDurable_makeDurable (s : State) (c : ContextIx) : MadeDurable [c] s (s.makeDurable c) := by
  cases hctx : s.ctx c with
  | writing o f m pl p =>
    have hset (x : ContextIx) : (s.setCtx c (.durable o f m pl)).ctx x = if c = x then .durable o f m pl else s.ctx x :=
      State.setCtx_ctx s c x _
    refine ⟨fun x => ?_, fun _ _ => ?_, ?_, ?_⟩
    · rw [makeDurable_eq hctx]
      refine (hset x).trans ?_
      by_cases hx : c = x
      · subst hx; simp [hctx, durableOf]
      · rw [if_neg hx, if_neg (by simpa using Ne.symm hx)]
    · rw [makeDurable_eq hctx]
    · rw [makeDurable_eq hctx]; rfl
    · rw [makeDurable_eq hctx]; exact .of_pushAll rfl rfl (Nat.le_refl _)
  | _ =>
    have hsame : s.makeDurable c = s := by unfold State.makeDurable; rw [hctx]
    rw [hsame]
    refine ⟨fun x => ?_, fun _ hall => ?_, rfl, .of_eq rfl rfl⟩
    · by_cases hx : x = c
      · subst hx; simp [hctx, durableOf]
      · simp [hx]
    · have hc := hall c (List.mem_singleton_self c)
      rw [hctx] at hc
      cases hc

omit hentry in
theorem durableOf_durableOf (x : Context) : durableOf (durableOf x) = durableOf x := by cases x <;> rfl

omit hentry in
theorem MadeDurable.cons {c : ContextIx} {l : List ContextIx} {s u t : State} (h : MadeDurable [c] s u)
    (g : MadeDurable l u t) : MadeDurable (c :: l) s t := by
  refine ⟨fun x => ?_, fun hnodup hall => ?_, ?_, ?_⟩
  · rw [g.ctx x, h.ctx x]
    by_cases hx : x = c
    · subst hx
      by_cases hl : x ∈ l <;> simp [hl, durableOf_durableOf]
    · simp [hx]
  · obtain ⟨hc, hl⟩ := List.nodup_cons.mp hnodup
    have hqueue := h.queue (List.nodup_singleton c) fun d hd => by
      obtain rfl := List.mem_singleton.mp hd
      exact hall _ (List.mem_cons_self ..)
    rw [g.queue hl fun d hd => ?_, hqueue, List.append_assoc]
    · rfl
    · rw [h.ctx d, if_neg fun he => hc (by rw [← List.mem_singleton.mp he]; exact hd)]
      exact hall d (List.mem_cons_of_mem _ hd)
  · have hrest := congrArg (fun z : State => besides
      { z with contexts := t.contexts, release := { z.release with queue := t.release.queue } } t) h.rest
    exact g.rest.trans hrest
  · exact ⟨fun x => g.bounded.events (h.bounded.events x), fun x => g.bounded.queue (h.bounded.queue x)⟩

omit hentry in
theorem madeDurable_foldl (l : List ContextIx) : ∀ s : State, MadeDurable l s (l.foldl State.makeDurable s) := by
  induction l with
  | nil => exact fun s => ⟨fun x => rfl, fun _ _ => (List.append_nil _).symm, rfl, .of_eq rfl rfl⟩
  | cons c l ih => exact fun s => (madeDurable_makeDurable s c).cons (ih _)

theorem answered_recordFlushAnswer (href : e.ref = .recordFlush) (r : DownResponse) :
    Answered s ((s.removeEntry tag).recordFlushAnswer r) := by
  have hport : e.ref.port = .writer := by rw [href]; rfl
  unfold State.recordFlushAnswer
  by_cases hactive : s.writer.active = true
  · rw [if_pos (by exact hactive)]
    simp only [State.removeEntry_writer]
    cases hflight : s.writer.flight with
    | none => exact .calm (calm_removed_writer hentry hport (.inr ⟨href, hflight⟩))
    | some f =>
      cases r with
      | error => exact .fault (fault_journalFault_removed _ _ _ hentry hport hactive)
      | ack data =>
        have hmade := madeDurable_foldl f.contexts (s.removeEntry tag)
        simp only
        generalize f.contexts.foldl State.makeDurable (s.removeEntry tag) = t at hmade
        refine .calm (Calm.trans ?_ (calm_checkFlush _))
        have hmove := Move.flushAcknowledged (s := s) tag e f t.contexts t.release.queue hentry href hflight hmade.ctx hmade.queue
        have hrest := congrArg (fun z : State => { z with writer := { z.writer with flight := none } }) hmade.rest
        exact hmove.calmBeside rfl hrest ⟨hmade.bounded.events, hmade.bounded.queue⟩
  · rw [if_neg (by exact hactive)]
    exact .calm (calm_removed_writer hentry hport (.inl (by simpa using hactive)))

end Answer

/-! ### Answers to the ring manager (R114–R117) -/

theorem answered_homeFlushAnswer (s : State) (r : DownResponse) : Answered s (s.homeFlushAnswer r) := by
  unfold State.homeFlushAnswer
  split
  · rename_i hupdate
    refine .calm (.single (.updateLed .anchorWrite s.anchorWrites 0 (by rw [hupdate]; nofun) fun q hq => .inl ?_) rfl)
    obtain ⟨w, -, rfl⟩ := List.mem_map.mp hq
    rfl
  · rename_i hupdate
    exact .fault (fault_updateError _ _ (by rw [hupdate]; nofun))
  · exact .calm .refl

theorem answered_anchorWriteAnswer (s : State) (a : Option Addr) (r : DownResponse) : Answered s (s.anchorWriteAnswer a r) := by
  unfold State.anchorWriteAnswer
  split
  · rename_i hupdate
    have hbusy : s.ring.update ≠ .idle := by rw [hupdate]; nofun
    split
    · exact .calm (.single (.updateLed s.ring.update s.ring.toIssue 1 hbusy fun q hq => .inr hq) rfl)
    · refine .calm (.single (.updateLed .anchorFlush [(.flush, .anchorFlush)] 2 hbusy fun q hq => .inl ?_) rfl)
      obtain rfl := List.mem_singleton.mp hq
      rfl
  · rename_i hupdate
    exact .fault (fault_updateError _ _ (by rw [hupdate]; nofun))
  · exact .calm .refl

theorem moves_completeUpdate {s : State} (hclosing : s.ring.closing = false) : Moves s s.completeUpdate := by
  unfold State.completeUpdate
  rw [if_neg (by simp [hclosing])]
  cases hsnapshot : s.ring.snapshot with
  | none => exact .refl
  | some k =>
    refine .head (.updateDone k hclosing hsnapshot) ?_
    exact (calm_spaceFreed _).moves.trans ((moves_drainCheck _).trans (calm_startUpdate _).moves)

/-! ### Answers to the release engine (R126, R130) -/

theorem answered_releaseLineAnswer (s : State) (c : ContextIx) (a : Option Addr) (r : DownResponse) :
    Answered s (s.releaseLineAnswer c a r) := by
  unfold State.releaseLineAnswer
  by_cases hactive : s.release.active = true
  · rw [if_pos hactive]
    cases r with
    | ack data =>
      exact .calm ((calm_updateProgress s c (fun p => { p with acked := p.acked + 1 }) fun _ => rfl).trans (calm_presentRelease _))
    | error => exact answered_releaseFault s c _ _ hactive
  · rw [if_neg hactive]; exact .calm .refl

theorem answered_releaseMarkerAnswer (s : State) (c : ContextIx) (a : Option Addr) (r : DownResponse) :
    Answered s (s.releaseMarkerAnswer c a r) := by
  unfold State.releaseMarkerAnswer
  by_cases hactive : s.release.active = true
  · rw [if_pos hactive]
    cases r with
    | ack data =>
      exact .calm ((calm_updateProgress s c (fun p => { p with markerAcked := true }) fun _ => rfl).trans (calm_presentRelease _))
    | error => exact answered_releaseFault s c _ _ hactive
  · rw [if_neg hactive]; exact .calm .refl

/-! ### Answers to the recovery engine (R150–R159) -/

/-- A step of the recovery engine that leaves the ring manager as it is. -/
theorem calm_recovery {s : State} (phase : Phase) (l : List (DownRequest × Ref)) (hbefore : s.recovery.phase.isCleared = true)
    (hafter : phase.isCleared = true) (hclose : s.recovery.phase.isClose = true → phase.isClose = true)
    (hports : ∀ q ∈ l, q.2.port = .recovery ∨ q ∈ s.recovery.toIssue) : Calm s { s with recovery := ⟨phase, l⟩ } :=
  .single (.recovered s.ring.epoch s.ring.generation s.ring.nextCopy phase l hbefore hafter hclose hports) rfl

theorem calm_enterClose {s : State} (k : Close) (hbefore : s.recovery.phase.isCleared = true) : Calm s (s.enterClose k) := by
  rw [RecoveryPath.enterClose_eq]
  exact .single (.closingAsked _ k hbefore) rfl

theorem calm_endScan {s : State} {k₀ : Scan} (k : Scan) (hphase : s.recovery.phase = .scan k₀) : Calm s (s.endScan k) := by
  have hbefore : s.recovery.phase.isCleared = true := by rw [hphase]; rfl
  unfold State.endScan
  split
  · exact calm_enterClose _ hbefore
  · exact calm_recovery _ _ hbefore rfl (by rw [hphase]; nofun) nofun

theorem calm_examine {s : State} (k : Scan) (hbefore : s.recovery.phase.isCleared = true)
    (hclose : s.recovery.phase.isClose = false) : Calm s (s.examine k) := by
  refine calm_recovery _ _ hbefore rfl (by rw [hclose]; nofun) fun q hq => .inl ?_
  obtain rfl := List.mem_singleton.mp hq
  rfl

theorem answered_judgeAnchors {s : State} {f : Bool} {x y : Option (List Byte)} (format : Bool) (p q : List Byte)
    (hphase : s.recovery.phase = .anchors f x y) : Answered s (s.judgeAnchors format p q) := by
  have hbefore : s.recovery.phase.isCleared = true := by rw [hphase]; rfl
  have hload (epoch : Word32) (generation : Word64) (copy : AnchorCopy) : Calm s (s.loadRing epoch generation copy) :=
    .single (.recovered epoch generation copy s.recovery.phase s.recovery.toIssue hbefore hbefore id fun q hq => .inr hq) rfl
  unfold State.judgeAnchors
  split
  · exact .calm ((hload _ _ _).trans (calm_examine _ hbefore (by show s.recovery.phase.isClose = false; rw [hphase]; rfl)))
  · exact .calm ((hload _ _ _).trans (calm_enterClose _ hbefore))
  · exact .fault (fault_recoveryFault s _ _ (.inl hbefore))
  · refine .calm ((hload _ _ _).trans (calm_recovery _ _ hbefore rfl (fun _ => rfl) fun q hq => .inl ?_))
    obtain ⟨w, -, rfl⟩ := List.mem_map.mp hq
    rfl

theorem answered_anchorReadAnswer (s : State) (copy : AnchorCopy) (a : Option Addr) (r : DownResponse) :
    Answered s (s.anchorReadAnswer copy a r) := by
  unfold State.anchorReadAnswer
  split
  · rename_i hphase
    exact .fault (fault_recoveryFault s _ _ (.inl (by rw [hphase]; rfl)))
  · rename_i hphase
    simp only
    split
    · exact answered_judgeAnchors _ _ _ hphase
    · exact .calm (calm_recovery _ _ (by rw [hphase]; rfl) rfl (by rw [hphase]; nofun) fun q hq => .inr hq)
  · exact .calm .refl

section Scan

variable {s : State} {k₀ : Scan} (hphase : s.recovery.phase = .scan k₀)
include hphase

/-- A step of the scan that presents requests of its own (R152, R154, R156). -/
theorem calm_scan (k : Scan) (l : List (DownRequest × Ref)) (hports : ∀ q ∈ l, q.2.port = .recovery ∨ q ∈ s.recovery.toIssue) :
    Calm s { s with recovery := ⟨.scan k, l⟩ } :=
  calm_recovery _ _ (by rw [hphase]; rfl) rfl (by rw [hphase]; nofun) hports

theorem calm_scanItem (k : Scan) (item : List Byte) : Calm s (s.scanItem k item) := by
  unfold State.scanItem
  simp only
  split
  · split
    · exact calm_examine _ (by rw [hphase]; rfl) (by rw [hphase]; rfl)
    · exact calm_endScan _ hphase
  · split
    · refine calm_scan hphase _ _ fun q hq => .inl ?_
      obtain rfl := List.mem_singleton.mp hq
      rfl
    · exact calm_endScan _ hphase

omit hphase in
theorem bodyReads_port (o n : Nat) : ∀ (m start : Nat), ∀ q ∈ s.bodyReads o n m start, q.2.port = .recovery := by
  intro m
  induction m with
  | zero => intro start q hq; cases hq
  | succ m ih =>
    intro start q hq
    unfold State.bodyReads at hq
    split at hq
    · obtain rfl | hq := List.mem_cons.mp hq
      · rfl
      · exact ih _ q hq
    · cases hq

theorem calm_scanHeader (k : Scan) (rest : List Byte) : Calm s (s.scanHeader k rest) := by
  unfold State.scanHeader
  simp only
  split
  · exact calm_scan hphase _ _ fun q hq => .inl (bodyReads_port _ _ _ _ q hq)
  · exact calm_endScan _ hphase

theorem calm_scanBody (k : Scan) (missing offset : Nat) (data : List Byte) : Calm s (s.scanBody k missing offset data) := by
  unfold State.scanBody
  simp only
  split
  · split
    · refine calm_scan hphase _ _ fun q hq => .inl ?_
      obtain ⟨w, -, rfl⟩ := List.mem_map.mp hq
      rfl
    · exact calm_endScan _ hphase
  · exact calm_scan hphase _ _ fun q hq => .inr hq

theorem calm_presentReplayMarker (k : Scan) : Calm s (s.presentReplayMarker k) := by
  refine calm_scan hphase _ _ fun q hq => .inl ?_
  obtain rfl := List.mem_singleton.mp hq
  rfl

end Scan

theorem answered_scanAnswer (s : State) (ref : Ref) (a : Option Addr) (r : DownResponse) : Answered s (s.scanAnswer ref a r) := by
  unfold State.scanAnswer
  split
  · rename_i hphase
    exact .fault (fault_recoveryFault s _ _ (.inl (by rw [hphase]; rfl)))
  · rename_i hphase
    split
    · exact .calm (calm_scanItem hphase _ _)
    · exact .calm (calm_scanHeader hphase _ _)
    · exact .calm (calm_scanBody hphase _ _ _ _)
    · exact .calm .refl
  · exact .calm .refl

theorem answered_replayEntryAnswer (s : State) (a : Option Addr) (r : DownResponse) : Answered s (s.replayEntryAnswer a r) := by
  unfold State.replayEntryAnswer
  split
  · rename_i hphase
    exact .fault (fault_recoveryFault s _ _ (.inl (by rw [hphase]; rfl)))
  · rename_i hphase
    simp only
    split
    · split
      · exact .calm (calm_presentReplayMarker hphase _)
      · exact .calm (calm_scan hphase _ _ fun q hq => .inr hq)
    · exact .calm (calm_scan hphase _ _ fun q hq => .inr hq)
  · exact .calm .refl

theorem answered_replayMarkerAnswer (s : State) (a : Option Addr) (r : DownResponse) : Answered s (s.replayMarkerAnswer a r) := by
  unfold State.replayMarkerAnswer
  split
  · rename_i hphase
    exact .fault (fault_recoveryFault s _ _ (.inl (by rw [hphase]; rfl)))
  · rename_i hphase
    simp only
    split
    · exact .calm (calm_endScan _ hphase)
    · exact .calm (calm_scan hphase _ _ fun q hq => .inr hq)
  · exact .calm .refl

theorem answered_zeroAnswer (s : State) (a : Option Addr) (r : DownResponse) : Answered s (s.zeroAnswer a r) := by
  unfold State.zeroAnswer
  split
  · rename_i hphase
    exact .fault (fault_recoveryFault s _ _ (.inl (by rw [hphase]; rfl)))
  · rename_i hphase
    split
    · exact .calm (calm_enterClose _ (by rw [hphase]; rfl))
    · exact .calm (calm_recovery _ _ (by rw [hphase]; rfl) rfl (fun _ => rfl) fun q hq => .inr hq)
  · exact .calm .refl

/-! ### Every answer (R175, R176) -/

/-- The cause of a fault in the state that an entry has left is one in the state before. -/
theorem FaultCause.of_removeEntry {s : State} {tag : XferTag} : FaultCause (s.removeEntry tag) → FaultCause s
  | .writer hactive e hmem hport => .writer hactive e (List.mem_of_mem_filter hmem) hport
  | .release hactive c hctx => .release hactive c hctx
  | .update hbusy hclosing => .update hbusy hclosing
  | .recovery h => .recovery h

/-- What an answer comes to, but for an acknowledged anchor FLUSH. -/
theorem answered_deliver {s : State} {tag : XferTag} {e : OutEntry} (r : DownResponse) (hentry : s.entry tag = some e)
    (hnot : e.ref = .anchorFlush → r = .error) : Answered s ((s.removeEntry tag).deliver e r) := by
  have hother (hingress : e.ref.port ≠ .ingress) (hwriter : e.ref.port ≠ .writer) {t : State}
      (h : Answered (s.removeEntry tag) t) : Answered s t :=
    h.after (calm_removed_other hentry hingress hwriter) (.of_same rfl rfl) FaultCause.of_removeEntry
  unfold State.deliver
  cases href : e.ref <;> simp only
  case pendingAnswer id => exact .calm (calm_countAnswer hentry href _ _)
  case tracking k => exact .calm (calm_completeRead hentry href _)
  case recordWrite c => exact answered_recordWriteAnswer hentry href _ _
  case recordFlush => exact answered_recordFlushAnswer hentry href _
  all_goals
    refine hother (by rw [href]; nofun) (by rw [href]; nofun) ?_
  case homeFlush => exact answered_homeFlushAnswer _ _
  case anchorWrite => exact answered_anchorWriteAnswer _ _ _
  case anchorFlush =>
    rw [hnot href]
    unfold State.anchorFlushAnswer
    split
    · rename_i hack; cases hack
    · rename_i hupdate _
      exact .fault (fault_updateError _ _ (by rw [hupdate]; nofun))
    · exact .calm .refl
  case releaseLine c => exact answered_releaseLineAnswer _ _ _ _
  case releaseMarker c => exact answered_releaseMarkerAnswer _ _ _ _
  case anchorRead copy => exact answered_anchorReadAnswer _ _ _ _
  case scanRead => exact answered_scanAnswer _ _ _ _
  case headerRead => exact answered_scanAnswer _ _ _ _
  case bodyRead o => exact answered_scanAnswer _ _ _ _
  case replayEntry => exact answered_replayEntryAnswer _ _ _
  case replayMarker => exact answered_replayMarkerAnswer _ _ _
  case zeroWrite => exact answered_zeroAnswer _ _ _

/-- An acknowledged anchor FLUSH is moves, and perhaps first the end of a recovery (R115, R120). -/
theorem comes_anchorFlush {s : State} {tag : XferTag} {e : OutEntry} (data : List Byte) (hentry : s.entry tag = some e)
    (href : e.ref = .anchorFlush) : Comes s ((s.removeEntry tag).anchorFlushAnswer (.ack data)) := by
  have hremoved : Moves s (s.removeEntry tag) :=
    (calm_removed_other hentry (by rw [href]; nofun) (by rw [href]; nofun)).moves
  unfold State.anchorFlushAnswer
  split
  · by_cases hclosing : s.ring.closing = true
    · unfold State.completeUpdate
      rw [if_pos (by exact hclosing)]
      split
      · rename_i hphase
        exact comes_finishRecovery hentry href hphase hclosing
      · exact .inl hremoved
    · exact .inl (hremoved.trans (moves_completeUpdate (by simpa using hclosing)))
  · rename_i herror; cases herror
  · exact .inl hremoved

theorem comes_deliver {s : State} {tag : XferTag} {e : OutEntry} (r : DownResponse) (hentry : s.entry tag = some e) :
    Comes s ((s.removeEntry tag).deliver e r) := by
  by_cases hend : e.ref = .anchorFlush ∧ r ≠ .error
  · obtain ⟨href, hack⟩ := hend
    have hdeliver : (s.removeEntry tag).deliver e r = (s.removeEntry tag).anchorFlushAnswer r := by
      unfold State.deliver
      rw [href]
    rw [hdeliver]
    cases r with
    | ack data => exact comes_anchorFlush data hentry href
    | error => exact absurd rfl hack
  · exact .inl (answered_deliver r hentry fun href => by simpa using fun hack => hend ⟨href, hack⟩).moves

theorem comes_respond {s t : State} {mine : Ref → Bool} {tag : XferTag} {r : DownResponse}
    (h : s.respond mine tag r = .next t) : Comes s t := by
  obtain hnone | ⟨e, hentry, -, ⟨-, hnext⟩ | ⟨-, hfault⟩⟩ := State.respond_cases s mine tag r
  · rw [hnone] at h
    cases h
    exact .inl .refl
  · rw [hnext] at h
    cases h
    exact comes_deliver r hentry
  · rw [hfault] at h
    cases h

theorem FaultCause.of_push {s : State} {b : EventBody} (h : FaultCause (s.push b)) : FaultCause s := by
  rw [State.push_eq] at h
  cases h with
  | writer hactive e hmem hport => exact .writer hactive e hmem hport
  | release hactive c hctx => exact .release hactive c hctx
  | update hbusy hclosing => exact .update hbusy hclosing
  | recovery h => exact .recovery h

theorem answered_responseTimeout (s : State) (tag : XferTag) : Answered s (s.responseTimeout tag) := by
  unfold State.responseTimeout
  cases hentry : s.entry tag with
  | none => exact .calm .refl
  | some e =>
    simp only
    split
    · rw [← State.push_removeEntry]
      exact (answered_deliver .error (by rw [State.push_entry]; exact hentry) fun _ => rfl).after (calm_push s _)
        (told_push s _ rfl) FaultCause.of_push
    · exact .calm .refl

end Sys2Proof.Proofs.Steps
end

section
/-! PROOF. The moves of the management port, and of every step. -/

namespace Sys2Proof.Proofs.Steps
open Sys2Proof Sys2Proof.Machine Sys2Proof.Proofs.Registers

/-! ### Values in range (R2, R104, R194, R196) -/

theorem lowWritten_mod {unit : Nat} (h : unit ∣ 2 ^ 32) (a : Addr) (v : Word32) : (lowWritten unit a v).toNat % unit = 0 := by
  refine Nat.mod_eq_zero_of_dvd ?_
  unfold lowWritten
  rw [BitVec.toNat_ofNat, Nat.dvd_mod_iff (h.trans (Nat.pow_dvd_pow 2 (by decide)))]
  exact (h.mul_left _).add (Dvd.intro_left _ rfl)

theorem highWritten_mod {unit : Nat} (h : unit ∣ 2 ^ 32) {a b : Addr} {v : Word32} (ha : a.toNat % unit = 0)
    (hb : highWritten a v = some b) : b.toNat % unit = 0 := by
  unfold highWritten at hb
  split at hb
  · cases hb
    refine Nat.mod_eq_zero_of_dvd ?_
    rw [BitVec.toNat_ofNat, Nat.dvd_mod_iff (h.trans (Nat.pow_dvd_pow 2 (by decide)))]
    exact (h.mul_left _).add ((Nat.dvd_mod_iff h).mpr (Nat.dvd_of_mod_eq_zero ha))
  · cases hb

theorem inRange_some {v : Word32} {low high n : Nat} (h : inRange v low high = some n) : low ≤ n ∧ n ≤ high := by
  unfold inRange at h
  split at h
  · rename_i hv; cases h; exact hv
  · cases h

theorem withHi_some {a : Addr} {v : Word32} {α : Type} {f : Addr → α} {x : α}
    (h : (if hiInRange v then some (f (withHi a v)) else none) = some x) : ∃ b, highWritten a v = some b ∧ x = f b := by
  rw [withHi_map a v f] at h
  obtain ⟨b, hb, rfl⟩ := Option.map_eq_some_iff.mp h
  exact ⟨b, hb, rfl⟩

/-- A register that is written takes a value of its range (R104, R194). -/
theorem registersInRange_write {s : State} {r : Register} {v : Word32} {g : Settings} (h : s.settings.write r v = some g)
    (hs : s.RegistersInRange) : State.RegistersInRange { s with settings := g } := by
  obtain ⟨hbase, hsize, hdiv, hinterval, hbatch, hstall, horphan, hdown, hwindows⟩ := hs
  unfold Settings.write at h
  cases r <;> simp only [reduceCtorEq] at h
  case journalBaseLo =>
    cases h
    refine ⟨?_, hsize, hdiv, hinterval, hbatch, hstall, horphan, hdown, hwindows⟩
    rw [withLo_page]
    exact lowWritten_mod (by decide) _ _
  case journalBaseHi =>
    obtain ⟨b, hb, rfl⟩ := withHi_some (f := fun a => ({ s.settings with journalBase := a } : Settings)) h
    exact ⟨highWritten_mod (by decide) hbase hb, hsize, hdiv, hinterval, hbatch, hstall, horphan, hdown, hwindows⟩
  case ringSizeLog2 =>
    obtain ⟨n, hn, rfl⟩ := Option.map_eq_some_iff.mp h
    exact ⟨hbase, inRange_some hn, hdiv, hinterval, hbatch, hstall, horphan, hdown, hwindows⟩
  case journalEpoch =>
    cases h
    exact ⟨hbase, hsize, hdiv, hinterval, hbatch, hstall, horphan, hdown, hwindows⟩
  case timebaseDiv =>
    obtain ⟨n, hn, rfl⟩ := Option.map_eq_some_iff.mp h
    exact ⟨hbase, hsize, inRange_some hn, hinterval, hbatch, hstall, horphan, hdown, hwindows⟩
  case anchorInterval =>
    obtain ⟨n, hn, rfl⟩ := Option.map_eq_some_iff.mp h
    exact ⟨hbase, hsize, hdiv, inRange_some hn, hbatch, hstall, horphan, hdown, hwindows⟩
  case flushBatch =>
    obtain ⟨n, hn, rfl⟩ := Option.map_eq_some_iff.mp h
    exact ⟨hbase, hsize, hdiv, hinterval, inRange_some hn, hstall, horphan, hdown, hwindows⟩
  case stallTimeout =>
    obtain ⟨n, hn, rfl⟩ := Option.map_eq_some_iff.mp h
    exact ⟨hbase, hsize, hdiv, hinterval, hbatch, inRange_some hn, horphan, hdown, hwindows⟩
  case orphanTimeout =>
    obtain ⟨n, hn, rfl⟩ := Option.map_eq_some_iff.mp h
    exact ⟨hbase, hsize, hdiv, hinterval, hbatch, hstall, inRange_some hn, hdown, hwindows⟩
  case downstreamTimeout =>
    obtain ⟨n, hn, rfl⟩ := Option.map_eq_some_iff.mp h
    exact ⟨hbase, hsize, hdiv, hinterval, hbatch, hstall, horphan, inRange_some hn, hwindows⟩
  case windowSelect =>
    split at h
    · cases h
      exact ⟨hbase, hsize, hdiv, hinterval, hbatch, hstall, horphan, hdown, hwindows⟩
    · cases h

/-- Only a write of RING_SIZE_LOG2 changes the ring size, and it is carried out in INIT alone (R193). -/
theorem ringSizeLog2_write {g g' : Settings} {r : Register} {v : Word32} (h : g.write r v = some g') :
    g'.ringSizeLog2 = g.ringSizeLog2 ∨ r.initOnly = true := by
  unfold Settings.write at h
  cases r <;> simp only [reduceCtorEq] at h
  case ringSizeLog2 => exact .inr rfl
  case journalBaseHi => exact .inr rfl
  case timebaseDiv => exact .inr rfl
  case journalBaseLo => exact .inr rfl
  case journalEpoch => exact .inr rfl
  case windowSelect =>
    split at h
    · cases h; exact .inl rfl
    · cases h
  all_goals
    obtain ⟨n, -, rfl⟩ := Option.map_eq_some_iff.mp h
    exact .inl rfl

/-- The range of a window entry's fields (R2, R196). -/
def WindowInRange (e : Window) : Prop :=
  e.base.toNat % 64 = 0 ∧ e.mask.toNat % 64 = 0 ∧ e.markerPattern.toNat % 8 = 0 ∧ e.markerMask.toNat % 8 = 0 ∧
    1 ≤ e.lengthLimit ∧ e.lengthLimit ≤ 256

theorem windowInRange_write {e e' : Window} {r : WindowRegister} {v : Word32} (h : e.write r v = some e')
    (he : WindowInRange e) : WindowInRange e' := by
  obtain ⟨hbase, hmask, hpattern, hmarker, hlow, hhigh⟩ := he
  unfold Window.write at h
  cases r <;> simp only at h
  case mode => split at h <;> cases h <;> exact ⟨hbase, hmask, hpattern, hmarker, hlow, hhigh⟩
  case baseLo =>
    cases h
    refine ⟨?_, hmask, hpattern, hmarker, hlow, hhigh⟩
    rw [withLo_line]
    exact lowWritten_mod (by decide) _ _
  case baseHi =>
    obtain ⟨b, hb, rfl⟩ := withHi_some (f := fun a => ({ e with base := a } : Window)) h
    exact ⟨highWritten_mod (by decide) hbase hb, hmask, hpattern, hmarker, hlow, hhigh⟩
  case maskLo =>
    cases h
    refine ⟨hbase, ?_, hpattern, hmarker, hlow, hhigh⟩
    rw [withLo_line]
    exact lowWritten_mod (by decide) _ _
  case maskHi =>
    obtain ⟨b, hb, rfl⟩ := withHi_some (f := fun a => ({ e with mask := a } : Window)) h
    exact ⟨hbase, highWritten_mod (by decide) hmask hb, hpattern, hmarker, hlow, hhigh⟩
  case markerPatternLo =>
    cases h
    refine ⟨hbase, hmask, ?_, hmarker, hlow, hhigh⟩
    rw [withLo_word]
    exact lowWritten_mod (by decide) _ _
  case markerPatternHi =>
    obtain ⟨b, hb, rfl⟩ := withHi_some (f := fun a => ({ e with markerPattern := a } : Window)) h
    exact ⟨hbase, hmask, highWritten_mod (by decide) hpattern hb, hmarker, hlow, hhigh⟩
  case markerMaskLo =>
    cases h
    refine ⟨hbase, hmask, hpattern, ?_, hlow, hhigh⟩
    rw [withLo_word]
    exact lowWritten_mod (by decide) _ _
  case markerMaskHi =>
    obtain ⟨b, hb, rfl⟩ := withHi_some (f := fun a => ({ e with markerMask := a } : Window)) h
    exact ⟨hbase, hmask, hpattern, highWritten_mod (by decide) hmarker hb, hlow, hhigh⟩
  case signature => cases h; exact ⟨hbase, hmask, hpattern, hmarker, hlow, hhigh⟩
  case lengthLimit =>
    split at h
    · rename_i hv
      cases h
      exact ⟨hbase, hmask, hpattern, hmarker, hv.1, hv.2⟩
    · cases h
  case idleTimeout => cases h; exact ⟨hbase, hmask, hpattern, hmarker, hlow, hhigh⟩
  case policy =>
    split at h
    · cases h; exact ⟨hbase, hmask, hpattern, hmarker, hlow, hhigh⟩
    · cases h

theorem registersInRange_setWindow {s : State} {w : WindowIx} {e : Window} (he : WindowInRange (s.window w) → WindowInRange e)
    (hs : s.RegistersInRange) : State.RegistersInRange { s with windows := s.windows.set w e } := by
  obtain ⟨hbase, hsize, hdiv, hinterval, hbatch, hstall, horphan, hdown, hwindows⟩ := hs
  refine ⟨hbase, hsize, hdiv, hinterval, hbatch, hstall, horphan, hdown, fun x => ?_⟩
  have hset : State.window { s with windows := s.windows.set w e } x = if w = x then e else s.window x := by
    unfold State.window
    simp only [Fin.getElem_fin, Vector.getElem_set, Fin.ext_iff]
  rw [hset]
  split
  · exact he (hwindows w)
  · exact hwindows x

/-! ### The management port (R192–R197) -/

theorem calm_reply (s : State) (reply : Option Reply) : Calm s { s with reply := reply } :=
  Calm.beside .refl rfl (.of_eq rfl rfl)

theorem calm_writeSetting (s : State) (r : Register) (v : Word32) : Calm s (s.writeSetting r v) := by
  unfold State.writeSetting
  split
  · exact calm_reply s _
  · split
    · exact calm_reply s _
    · rename_i hinit
      cases hwrite : s.settings.write r v with
      | none => exact calm_reply s _
      | some g =>
        have hsize : g.ringSizeLog2 = s.settings.ringSizeLog2 ∨ s.mode = .init :=
          (ringSizeLog2_write hwrite).imp id fun h => by simpa [h] using hinit
        have hset := Move.settings g (registersInRange_write hwrite) hsize
        have hflags : Calm s { s with
            settings := g, ring := s.ring.intervalChanged s.settings.anchorInterval g.anchorInterval } :=
          (Calm.single hset rfl).tail (.flags _ s.ring.spaceRequest) rfl
        simp only
        split
        · exact hflags.trans (calm_reply _ _)
        · exact (hflags.trans (calm_startUpdate _)).trans (calm_reply _ _)

theorem calm_writeWindow (s : State) (r : WindowRegister) (v : Word32) : Calm s (s.writeWindow r v) := by
  unfold State.writeWindow
  split
  · cases hwrite : (s.window s.settings.windowSelect).write r v with
    | none => exact calm_reply s _
    | some e =>
      exact .head (.windows _ (registersInRange_setWindow (windowInRange_write hwrite))) rfl (calm_reply _ _)
  · exact calm_reply s _

/-- What a CONTROL write that is carried out finds: START only in INIT, WARM_RESET neither in INIT nor in RECOVERING (R195). -/
theorem modes_of_controlStatus {s : State} {v : Word32} (h : s.controlStatus v = .ok) :
    (v.getLsbD 0 = true → s.mode = .init) ∧ (v.getLsbD 2 = true → s.mode ≠ .init ∧ s.mode ≠ .recovering) := by
  unfold State.controlStatus at h
  split at h
  · cases h
  · split at h
    · cases h
    · rename_i hbusy
      simp only [Bool.or_eq_true, Bool.and_eq_true, decide_eq_true_eq, not_or, not_and, ne_eq, not_not] at hbusy
      exact hbusy

theorem moves_controlWrite (s : State) (v : Word32) : Moves s (s.controlWrite v) := by
  cases hstatus : s.controlStatus v with
  | ok =>
    rw [controlWrite_of_ok hstatus]
    refine Relation.ReflTransGen.trans ?_ (calm_reply _ _).moves
    have hbits : Moves s ((s.controlIrq v).controlOverflow v) := by
      rw [controlOverflow_controlIrq]
      exact (Move.settings { s.settings with
        irqEnable := if v.getLsbD 4 then true else if v.getLsbD 5 then false else s.settings.irqEnable } id
          (.inl rfl)).thenBeside rfl ⟨id, id⟩
    have hmode : ((s.controlIrq v).controlOverflow v).mode = s.mode := by rw [controlOverflow_controlIrq]
    refine hbits.trans ?_
    unfold State.controlCommand
    split
    · rename_i hstart
      exact moves_startRecovery _ (hmode.trans ((modes_of_controlStatus hstatus).1 hstart))
    · split
      · exact moves_beginWarmReset _
      · exact .refl
  | busy => rw [controlWrite_of_refused hstatus nofun]; exact (calm_reply s _).moves
  | badAddr => rw [controlWrite_of_refused hstatus nofun]; exact (calm_reply s _).moves

/-- CONTROL stands at its address alone (R194). -/
theorem registerMap_control : ∀ p ∈ registerMap, p.2 = .control → p.1 = 4 := by decide

/-- A write at any other address than that of CONTROL leaves the mode. -/
theorem calm_writeRegister (s : State) {a : BitVec 16} (v : Word32) (h : a ≠ 0x0004#16) : Calm s (s.writeRegister a v) := by
  unfold State.writeRegister
  split
  · exact calm_reply s _
  · rename_i hat
    exact absurd (BitVec.eq_of_toNat_eq (registerMap_control _ (Registers.mem_registerMap_of_registerAt hat) rfl)) h
  · exact calm_writeWindow s _ v
  · exact calm_writeSetting s _ v

theorem calm_popEvent (s : State) : Calm s s.popEvent := by
  unfold State.popEvent
  cases hentries : s.events.entries with
  | nil =>
    simp only
    refine Calm.beside .refl rfl ⟨fun _ => ?_, id⟩
    show s.events.entries.length ≤ _
    rw [hentries]
    exact Nat.zero_le _
  | cons x xs =>
    simp only
    refine Calm.beside .refl rfl ⟨fun h => ?_, id⟩
    rw [hentries] at h
    exact Nat.le_of_succ_le h

theorem calm_readSequenceLo (s : State) (p : SequencePair) : Calm s (s.readSequenceLo p) := by
  unfold State.readSequenceLo
  simp only
  refine Calm.trans ?_ (calm_reply _ _)
  cases p with
  | nextSequence => exact .single (.settings _ id (.inl rfl)) rfl
  | durableTailSequence => exact .single (.settings _ id (.inl rfl)) rfl

theorem calm_readRegister (s : State) (a : BitVec 16) : Calm s (s.readRegister a) := by
  unfold State.readRegister
  split
  · exact calm_reply s _
  · exact calm_popEvent s
  · exact calm_readSequenceLo s _
  · exact calm_reply s _

theorem calm_cutReply (s : State) (n : Nat) : Calm s (s.cutReply n) := by
  unfold State.cutReply
  split
  · exact calm_reply s _
  · exact .refl

/-- A frame that is no WRITE to CONTROL leaves the mode. -/
theorem calm_frame (s : State) {f : List Byte} (h : frameControl (.badCommandFrame f) = none) : Calm s (s.frame f) := by
  unfold State.frame
  split
  · rename_i c hi lo rest
    split
    · exact (calm_readRegister s _).trans (calm_cutReply _ _)
    · split
      · rename_i hwrite
        split
        · rename_i d3 d2 d1 d0 tail
          refine (calm_writeRegister s _ fun haddress => ?_).trans (calm_cutReply _ _)
          have hbytes : hi = 0x00#8 ∧ lo = 0x04#8 := by
            have hnat := congrArg BitVec.toNat haddress
            rw [BitVec.toNat_append, ← Nat.shiftLeft_add_eq_or_of_lt lo.isLt, Nat.shiftLeft_eq] at hnat
            have hvalue : hi.toNat * 2 ^ 8 + lo.toNat = 4 := hnat
            have hlt := lo.isLt
            constructor <;> refine BitVec.eq_of_toNat_eq ?_
            · show hi.toNat = 0
              omega
            · show lo.toNat = 4
              omega
          have hsome : frameControl (.badCommandFrame (c :: hi :: lo :: d3 :: d2 :: d1 :: d0 :: tail)) =
            some (d3 ++ d2 ++ d1 ++ d0) := if_pos ⟨hwrite, hbytes⟩
          rw [hsome] at h
          cases h
        · exact calm_reply s _
      · exact (calm_reply s _).trans (calm_cutReply _ _)
  · exact calm_reply s _

/-! ### Every command, and every step -/

/-- The word that a command writes to CONTROL, if it does. -/
def controlOf (c : Instr) : Option Word32 := (controlWord c).or (frameControl c)

/-- The commands that leave the mode: no answer of the memory, no CONTROL write, no input line, no check of the drain and no
expiry of a response timer. -/
structure LeavesMode (c : Instr) : Prop where
  answer : responseOf c = none
  control : controlOf c = none
  reset : c ≠ .coldReset
  asserted : c ≠ .pfwarnAsserted
  deasserted : c ≠ .pfwarnDeasserted
  drain : c ≠ .drainComplete
  timer : ∀ tag, c ≠ .responseTimerExpiry tag

theorem calm_exec {c : Instr} {s t : State} (hc : LeavesMode c) (h : exec c s = .next t) : Calm s t := by
  obtain ⟨hanswer, hcontrol, hreset, hasserted, hdeasserted, hdrain, htimer⟩ := hc
  cases c <;> simp only [responseOf, reduceCtorEq] at hanswer <;> unfold exec at h <;> simp only at h
  case coldReset => exact absurd rfl hreset
  case pfwarnAsserted => exact absurd rfl hasserted
  case pfwarnDeasserted => exact absurd rfl hdeasserted
  case drainComplete => exact absurd rfl hdrain
  case responseTimerExpiry tag => exact absurd rfl (htimer tag)
  case upstreamRequest r =>
    unfold execUpstreamRequest at h
    split at h
    · cases h; exact calm_accept s r
    · cases h
  case headEvaluation => cases h; exact calm_evaluateHead s
  case idleTimerExpiry c => cases h; exact calm_idleExpiry s c
  case orphanTimerExpiry c => cases h; exact calm_orphanExpiry s c
  case stallTimerExpiry => cases h; exact calm_stallExpiry s
  case takeCommitHead => cases h; exact calm_takeHead s
  case arbiterGrant => cases h; exact calm_arbiterGrant s
  case releaseTakeHead => cases h; exact calm_takeDurable s
  case retirement => cases h; exact calm_retireFirst s
  case anchorUpdateStart => cases h; exact calm_startUpdate s
  case warmResetClearing => cases h; exact calm_clearForRecovery s
  case eventPop => cases h; exact calm_popEvent s
  case sequenceLoRead p => cases h; exact calm_readSequenceLo s p
  case windowFieldWrite r v => cases h; exact calm_writeWindow s r v
  case registerWrite a v =>
    cases h
    refine calm_writeRegister s v fun ha => ?_
    subst ha
    cases hcontrol
  case badCommandFrame f => cases h; exact calm_frame s hcontrol
  all_goals cases hcontrol

/-- A command that writes CONTROL is that write, but for the reply (R192, R194). -/
theorem exec_control {c : Instr} {v : Word32} (h : controlOf c = some v) (s : State) :
    ∃ reply, exec c s = .next { s.controlWrite v with reply := reply } := by
  cases c
  case registerWrite a w =>
    by_cases ha : a = 0x0004#16
    · subst ha
      cases h
      exact ⟨_, rfl⟩
    · have hnone : controlOf (.registerWrite a w) = none := by simp [controlOf, controlWord, frameControl, ha]
      rw [hnone] at h
      cases h
  case badCommandFrame f =>
    have hf : frameControl (.badCommandFrame f) = some v := h
    unfold frameControl at hf
    split at hf
    · rename_i hform
      cases hform
      split at hf
      · rename_i hbytes
        obtain ⟨rfl, rfl, rfl⟩ := hbytes
        cases hf
        show ∃ reply, Host.Outcome.next (State.cutReply (s.controlWrite _) _) = _
        unfold State.cutReply
        split
        · exact ⟨_, rfl⟩
        · exact ⟨_, rfl⟩
      · cases hf
    · cases hf
  case start w => cases h; exact ⟨_, rfl⟩
  case format w => cases h; exact ⟨_, rfl⟩
  case warmReset w => cases h; exact ⟨_, rfl⟩
  case clearOverflow w => cases h; exact ⟨_, rfl⟩
  case irqEnableSet w => cases h; exact ⟨_, rfl⟩
  case irqEnableClear w => cases h; exact ⟨_, rfl⟩
  all_goals cases h

/-- A command with no answer of the memory makes moves alone. -/
theorem moves_exec {c : Instr} {s t : State} (hnone : responseOf c = none) (h : exec c s = .next t) : Moves s t := by
  cases hcontrol : controlOf c with
  | some v =>
    obtain ⟨reply, hwrite⟩ := exec_control hcontrol s
    rw [hwrite] at h
    cases h
    exact (moves_controlWrite s v).trans (calm_reply _ reply).moves
  | none =>
    by_cases hquiet : LeavesMode c
    · exact (calm_exec hquiet h).moves
    · cases c
      case coldReset => cases h; exact .single .coldReset
      case pfwarnAsserted => cases h; exact moves_assertPfwarn s
      case pfwarnDeasserted => cases h; exact moves_deassertPfwarn s
      case drainComplete => cases h; exact moves_drainCheck s
      case responseTimerExpiry tag => cases h; exact (answered_responseTimeout s tag).moves
      all_goals exact absurd ⟨hnone, hcontrol, nofun, nofun, nofun, nofun, nofun⟩ hquiet

theorem comes_exec {c : Instr} {s t : State} (h : exec c s = .next t) : Comes s t := by
  cases hanswer : responseOf c with
  | none => exact .inl (moves_exec hanswer h)
  | some x =>
    obtain ⟨tag, r⟩ := x
    obtain ⟨mine, hexec⟩ := StepAndReset.exec_of_responseOf hanswer s
    exact comes_respond (hexec.symm.trans h)

/-- A step is moves, and perhaps the end of a recovery, from the state that differs in the queue of commands alone. -/
theorem comes_step {s t : State} (h : step s = .next t) : ∃ rest, Comes { s with pending := rest } t := by
  unfold step at h
  split at h
  · cases h
    refine ⟨s.pending, .inl ?_⟩
    unfold State.tick
    split
    · exact Moves.beside .refl rfl (.of_eq rfl rfl)
    · exact Moves.beside .refl rfl (.of_eq rfl rfl)
  · exact ⟨_, comes_exec h⟩

/-- What every move and the end of a recovery keep, every step keeps. -/
theorem keep_of_step {P : State → Prop} (hpending : ∀ s rest, P s → P { s with pending := rest })
    (hmove : ∀ s t, P s → Move s t → P t) (hfinish : ∀ s t, P s → Finish s t → P t) {s t : State} (h : step s = .next t)
    (hs : P s) : P t := by
  obtain ⟨rest, hmoves | ⟨u, hfinished, hmoves⟩⟩ := comes_step h
  · exact Moves.keep hmove hmoves (hpending s rest hs)
  · exact Moves.keep hmove hmoves (hfinish _ u (hpending s rest hs) hfinished)

end Sys2Proof.Proofs.Steps
end

section
/-! PROOF. What every move keeps: the bounds of the tables, and the hold buffer's law. -/

namespace Sys2Proof.Proofs.Bounds
open Sys2Proof Sys2Proof.Machine Sys2Proof.Proofs.Steps Sys2Proof.Proofs.Faults

/-! ### The ring manager's operations, as records (R108, R110) -/

/-- The bytes of a pad, and none where there is no pad. -/
def padBytesOf (p : Option Pad) : Nat := (p.map Pad.length).getD 0

/-- A granted reservation, in full: the live bytes rise by the record and its pad, and the pad is unanchored or pending (R108). -/
theorem reserve_record (g : Machine.Ring) (size n : Nat) (x : Grant) : ∃ (head offset un : Nat) (pad : Option Pad),
    un + padBytesOf pad ≤ g.unanchored + padBytesOf g.pendingPad + padBytesOf x.pad ∧ g.unanchored ≤ un ∧
      g.reserve size n x = { g with
        head := head, nextSequence := g.nextSequence + 1, live := g.live + (padBytesOf x.pad + n), spaceRequest := false
        retiredOffset := offset, unanchored := un, pendingPad := pad } := by
  unfold Ring.reserve
  cases hpad : x.pad with
  | none =>
    refine ⟨wrapOffset size x.offset n, g.retiredOffset, g.unanchored, g.pendingPad, Nat.le_add_right _ _, Nat.le_refl _, ?_⟩
    have hzero : padBytesOf none + n = n := Nat.zero_add n
    rw [hzero]
  | some p =>
    simp only
    split
    · refine ⟨_, 0, g.unanchored + p.length, none, ?_, Nat.le_add_right _ _, rfl⟩
      show g.unanchored + p.length + 0 ≤ g.unanchored + padBytesOf g.pendingPad + p.length
      omega
    · refine ⟨_, g.retiredOffset, g.unanchored, some p, ?_, Nat.le_refl _, rfl⟩
      show g.unanchored + p.length ≤ g.unanchored + padBytesOf g.pendingPad + p.length
      omega

/-- A retirement, in full: the record's bytes become unanchored, and so do those of a pad that the retired tail reaches (R110). -/
theorem retire_record (g : Machine.Ring) (size interval o n : Nat) (q : Word64) :
    ∃ (offset un count : Nat) (again : Bool) (pad : Option Pad),
      un + padBytesOf pad = g.unanchored + n + padBytesOf g.pendingPad ∧ g.unanchored + n ≤ un ∧ count ≤ 64 ∧
        g.retire size interval o n q = { g with
          retiredOffset := offset, retiredSequence := q + 1, unanchored := un, retirements := count, again := again
          pendingPad := pad } := by
  have hcount : (if g.retirements < 64 then g.retirements + 1 else 64) ≤ 64 := by split <;> omega
  unfold Ring.retire
  simp only
  split
  · rename_i p hpad
    split
    · exact ⟨0, g.unanchored + n + p.length, _, _, none, by simp [padBytesOf, hpad], by omega, hcount, rfl⟩
    · exact ⟨_, g.unanchored + n, _, _, g.pendingPad, rfl, Nat.le_refl _, hcount, rfl⟩
  · exact ⟨_, g.unanchored + n, _, _, g.pendingPad, rfl, Nat.le_refl _, hcount, rfl⟩

/-! ### The bounds of the tables (R66, R106, R121, R163, R172, R187, R194) -/

/-- A request issued while there is room takes a tag that no entry holds (R172). -/
theorem issue_bounds {s : State} (p : Port) (q : DownRequest) (ref : Ref) (htags : s.TagsDistinct)
    (hroom : s.downstream.outstanding.length < Config.outstandingDepth) :
    (s.issue p q ref).downstream.outstanding.length ≤ Config.outstandingDepth ∧ (s.issue p q ref).TagsDistinct := by
  refine ⟨?_, ?_⟩
  · show (s.downstream.outstanding ++ [_]).length ≤ _
    rw [List.length_append]
    exact hroom
  · show ((s.downstream.outstanding ++ [_]).map OutEntry.tag).Nodup
    rw [List.map_append, List.nodup_append]
    refine ⟨htags, List.nodup_singleton _, fun a ha b hb hab => ?_⟩
    rw [List.map_singleton, List.mem_singleton] at hb
    have hlength : (s.downstream.outstanding.map OutEntry.tag).length = s.downstream.outstanding.length := List.length_map _
    have hfree := freeTag_not_mem (s.downstream.outstanding.map OutEntry.tag)
      (by rw [hlength]; exact Nat.lt_trans hroom (by decide)) s.downstream.counter
    rw [hlength] at hfree
    rw [hab, hb] at ha
    exact hfree ha

theorem removeEntry_bounds {s : State} (tag : XferTag) (htags : s.TagsDistinct) :
    (s.removeEntry tag).downstream.outstanding.length ≤ s.downstream.outstanding.length ∧ (s.removeEntry tag).TagsDistinct :=
  ⟨List.length_filter_le _ _, htags.sublist (List.filter_sublist.map _)⟩

/-- The laws of the tables' bounds together. -/
def TablesBounded (s : State) : Prop := s.WithinDepth ∧ s.TagsDistinct ∧ s.RegistersInRange

theorem tablesBounded_move {s t : State} (h : TablesBounded s) (hmove : Move s t) : TablesBounded t := by
  obtain ⟨hdepth, htags, hrange⟩ := h
  have hdepths := hdepth
  obtain ⟨hevents, hqueue, hout, hreleasing, hretirements⟩ := hdepths
  have hremoved (tag : XferTag) : TablesBounded (s.removeEntry tag) :=
    ⟨⟨hevents, hqueue, Nat.le_trans (removeEntry_bounds tag htags).1 hout, hreleasing, hretirements⟩,
      (removeEntry_bounds tag htags).2, hrange⟩
  have hissued (p : Port) (q : DownRequest) (ref : Ref) (hroom : s.downstream.outstanding.length < Config.outstandingDepth) :
      TablesBounded (s.issue p q ref) :=
    ⟨⟨hevents, hqueue, (issue_bounds p q ref htags hroom).1, hreleasing, hretirements⟩,
      (issue_bounds p q ref htags hroom).2, hrange⟩
  cases hmove
  case beside t h => exact ⟨⟨h.events hevents, h.queue hqueue, hout, hreleasing, hretirements⟩, htags, hrange⟩
  case settings g hg hsize => exact ⟨hdepth, htags, hg hrange⟩
  case windows v hv => exact ⟨hdepth, htags, hv hrange⟩
  case coldReset =>
    have hreset := StepAndReset.resetStateIsLawful
    exact ⟨hreset.withinDepth, hreset.tagsDistinct, hreset.registersInRange⟩
  case taken c rest o f m p g hqueue' hctx hgrant hactive hmode =>
    obtain ⟨head, offset, un, pad, -, -, hring⟩ :=
      reserve_record s.ring s.ringSize (recordLength (s.entryCount c)) g
    refine ⟨⟨hevents, hqueue, hout, hreleasing, ?_⟩, htags, hrange⟩
    show (s.ring.reserve s.ringSize (recordLength (s.entryCount c)) g).retirements ≤ 64
    rw [hring]
    exact hretirements
  case ingressGranted x rest hhand hroom => exact hissued _ _ _ hroom
  case flushGranted contexts hflight hroom => exact hissued _ _ _ hroom
  case writeGranted done more b q hbatch hroom => exact hissued _ _ _ hroom
  case issued p q ref hroom href => exact hissued _ _ _ hroom
  case snapshotTaken => exact ⟨⟨hevents, hqueue, hout, hreleasing, Nat.zero_le _⟩, htags, hrange⟩
  case progressed l w hl =>
    have hlength : l.length = s.release.releasing.length := by simpa using congrArg List.length hl
    exact ⟨⟨hevents, hqueue, hout, hlength ▸ hreleasing, hretirements⟩, htags, hrange⟩
  case removed tag _ _ _ _ _ => exact hremoved tag
  case counted tag _ _ _ _ _ _ _ => exact hremoved tag
  case answered tag _ _ _ _ _ _ => exact hremoved tag
  case readEnded tag _ _ _ _ => exact hremoved tag
  case writeAcknowledged tag _ _ _ _ => exact hremoved tag
  case flushAcknowledged tag _ _ _ _ _ _ _ _ _ => exact hremoved tag
  case cleared => exact ⟨⟨hevents, hqueue, hout, Nat.zero_le _, Nat.zero_le _⟩, htags, hrange⟩
  case releaseTaken c rest o f m pl hq hctx hroom =>
    refine ⟨⟨hevents, hqueue, hout, ?_, hretirements⟩, htags, hrange⟩
    show (s.release.releasing ++ [_]).length ≤ _
    rw [List.length_append]
    exact hroom
  case retired p rest o f m pl hset hctx =>
    obtain ⟨offset, un, count, again, pad, -, -, hcount, hring⟩ := retire_record s.ring s.ringSize s.settings.anchorInterval
      pl.offset (recordLength (s.entryCount p.context)) pl.sequence
    rw [hset] at hreleasing
    refine ⟨⟨hevents, hqueue, hout, Nat.le_of_succ_le hreleasing, ?_⟩, htags, hrange⟩
    show (s.ring.retire _ _ _ _ _).retirements ≤ 64
    rw [hring]
    exact hcount
  all_goals exact ⟨hdepth, htags, hrange⟩

theorem tablesBounded_finish {s t : State} (h : TablesBounded s) (hfinish : Finish s t) : TablesBounded t := by
  obtain ⟨⟨hevents, hqueue, hout, -, -⟩, htags, hrange⟩ := h
  cases hfinish
  case finished tag _ _ _ _ _ _ =>
    exact ⟨⟨hevents, hqueue, Nat.le_trans (removeEntry_bounds tag htags).1 hout, Nat.zero_le _, Nat.zero_le _⟩,
      (removeEntry_bounds tag htags).2, hrange⟩

/-- Settles O54: every move and the end of a recovery keep the bounds. -/
theorem tablesStayWithinBounds : Obligations.TablesStayWithinBounds := by
  unfold Obligations.TablesStayWithinBounds
  intro s t hdepth htags hrange hstep
  exact keep_of_step (P := TablesBounded) (fun _ _ h => h) (fun _ _ => tablesBounded_move)
    (fun _ _ => tablesBounded_finish) hstep ⟨hdepth, htags, hrange⟩

end Sys2Proof.Proofs.Bounds
end

section
/-! PROOF. The hold buffer's law, kept by every move. -/

namespace Sys2Proof.Proofs.HoldBuffer
open Sys2Proof Sys2Proof.Machine Sys2Proof.Proofs.Steps Sys2Proof.Proofs.JournalWriter

/-! ### Where slots leave and contexts change (R43, R44) -/

/-- A context that may own slots (R43). -/
def MayHold (x : Context) : Prop := x.isOpen = true ∨ x.isCommitted = true

/-- A change of a context that its slots outlive: one that may own slots still may, and a committed one stays committed. -/
def KeepsSlots (x y : Context) : Prop := (MayHold x → MayHold y) ∧ (x.isCommitted = true → y.isCommitted = true)

theorem KeepsSlots.rfl {x : Context} : KeepsSlots x x := ⟨id, id⟩

/-- Where slots only leave, and the contexts of those that stay keep theirs, the law is kept (R44). -/
theorem holdLaw_of_sublist {s t : State} (hlaw : s.HoldLaw) (hhold : t.hold.Sublist s.hold)
    (hctx : ∀ h ∈ t.hold, KeepsSlots (s.ctx h.owner) (t.ctx h.owner)) : t.HoldLaw := by
  obtain ⟨hnumbers, hslots, hpairs⟩ := hlaw
  refine ⟨hnumbers.sublist (hhold.map _), fun h hh => ?_, ?_⟩
  · obtain ⟨howner, hbytes⟩ := hslots h (hhold.subset hh)
    exact ⟨(hctx h hh).1 howner, hbytes⟩
  · refine (hpairs.sublist hhold).imp_of_mem fun {a b} ha _ hab hline => ?_
    obtain ⟨hcommitted, hne⟩ := hab hline
    exact ⟨(hctx a ha).2 hcommitted, hne⟩

theorem ctx_set (s : State) (c : ContextIx) (x : Context) (d : ContextIx) :
    (s.contexts.set c x)[d] = if c = d then x else s.ctx d := State.setCtx_ctx s c d x

/-- A change of one context with some of the slots gone. -/
theorem holdLaw_set {s : State} (hlaw : s.HoldLaw) (c : ContextIx) {x : Context} {hold : List HeldSlot}
    (hhold : hold.Sublist s.hold) (hx : (∀ h ∈ hold, h.owner ≠ c) ∨ KeepsSlots (s.ctx c) x) :
    State.HoldLaw { s with contexts := s.contexts.set c x, hold := hold } := by
  refine holdLaw_of_sublist hlaw hhold fun h hh => ?_
  have hctx : State.ctx { s with contexts := s.contexts.set c x, hold := hold } h.owner = if c = h.owner then x else s.ctx h.owner :=
    ctx_set s c x h.owner
  rw [hctx]
  by_cases howner : c = h.owner
  · rw [if_pos howner]
    obtain hgone | hkeeps := hx
    · exact absurd howner.symm (hgone h hh)
    · rw [← howner]; exact hkeeps
  · rw [if_neg howner]; exact .rfl

theorem owner_ne_of_dropped {s : State} {c : ContextIx} : ∀ h ∈ s.hold.filter (fun h => h.owner ≠ c), h.owner ≠ c :=
  fun h hh => by simpa using (List.mem_filter.mp hh).2

/-- A context that can own no slot keeps its none. -/
theorem keepsSlots_of_not {x y : Context} (hopen : x.isOpen = false) (hcommitted : x.isCommitted = false) : KeepsSlots x y :=
  ⟨fun h => by rw [MayHold, hopen, hcommitted] at h; simp at h, fun h => by rw [hcommitted] at h; cases h⟩

theorem keepsSlots_of_free {x y : Context} (h : x.isFree = true) : KeepsSlots x y := by
  cases x with
  | free => exact keepsSlots_of_not rfl rfl
  | _ => cases h

theorem keepsSlots_of_failed {x y : Context} (h : x.isFailed = true) : KeepsSlots x y := by
  cases x with
  | failed => exact keepsSlots_of_not rfl rfl
  | _ => cases h

theorem keepsSlots_of_committed {x y : Context} (h : y.isCommitted = true) : KeepsSlots x y := ⟨fun _ => .inr h, fun _ => h⟩

theorem isCommitted_of_isQueued {x : Context} (h : x.isQueued = true) : x.isCommitted = true := by
  cases x with
  | queued => rfl
  | _ => cases h

theorem keepsSlots_of_open {x y : Context} (hx : x.isOpen = true) (hy : y.isOpen = true) : KeepsSlots x y := by
  cases x with
  | opened => exact ⟨fun _ => .inl hy, nofun⟩
  | _ => cases hx

theorem keepsSlots_durableOf (x : Context) : KeepsSlots x (durableOf x) := by
  cases x with
  | writing => exact keepsSlots_of_committed rfl
  | _ => exact .rfl

theorem keepsSlots_atWarmReset (x : Context) : KeepsSlots x x.atWarmReset := by
  cases x with
  | opened => exact keepsSlots_of_open rfl rfl
  | failed => exact keepsSlots_of_failed rfl
  | queued => exact keepsSlots_of_committed rfl
  | writing => exact keepsSlots_of_committed rfl
  | _ => exact .rfl

/-- The slots that stay when contexts fail are those of contexts that neither fail nor go FREE (R37, R38, R39). -/
theorem holdLaw_failsOpen {s : State} (hlaw : s.HoldLaw) {freed : List ContextIx} {v : Vector Context 16}
    (hv : FailsOpen s freed v) : State.HoldLaw { s with contexts := v, hold := heldAfter s freed } := by
  refine holdLaw_of_sublist hlaw List.filter_sublist fun h hh => ?_
  obtain ⟨-, hstays⟩ := List.mem_filter.mp hh
  have hctx : State.ctx { s with contexts := v, hold := heldAfter s freed } h.owner = v[h.owner] := rfl
  simp only [Bool.not_eq_true', Bool.or_eq_false_iff, Bool.and_eq_false_iff, decide_eq_false_iff_not] at hstays
  obtain ⟨hopen, hnot⟩ := hstays
  obtain ⟨r, now, orphan, hfailed⟩ := (hv h.owner).2 fun ⟨hmem, hsealing⟩ => by
    obtain hout | hneither := hnot
    · exact hout hmem
    · rw [hneither.1, hneither.2] at hsealing
      simp at hsealing
  rw [hctx, hfailed]
  cases hx : s.ctx h.owner with
  | opened => rw [hx] at hopen; cases hopen
  | _ => exact .rfl

/-! ### Where slots are written (R47, R48) -/

theorem hasBytes_layOver {u t : LineBytes} (hu : u.length = 64) (ht : t.length = 64) (h : hasBytes t = true) :
    hasBytes (layOver u t) = true := by
  obtain ⟨b, hb, hsome⟩ := List.any_eq_true.mp h
  obtain ⟨k, hk, rfl⟩ := List.getElem_of_mem hb
  have hlay := layOver_getElem? k hu ht (ht ▸ hk)
  refine List.any_eq_true.mpr ⟨t[k] <|> u[k], List.mem_of_getElem? hlay, ?_⟩
  obtain ⟨v, hv⟩ := Option.isSome_iff_exists.mp hsome
  rw [hv]
  rfl

theorem holdLaw_mergeSlot {s : State} (hlaw : s.HoldLaw) (n : SlotNo) {bytes : LineBytes} (hlength : bytes.length = 64)
    (hbytes : hasBytes bytes = true) : (s.mergeSlot n bytes).HoldLaw := by
  obtain ⟨hnumbers, hslots, hpairs⟩ := hlaw
  refine ⟨?_, fun h hh => ?_, ?_⟩
  · have hsame : (s.mergeSlot n bytes).hold.map HeldSlot.number = s.hold.map HeldSlot.number := by
      refine (List.map_map ..).trans (List.map_congr_left fun h _ => ?_)
      by_cases hn : h.number = n <;> simp [hn]
    rw [hsame]; exact hnumbers
  · obtain ⟨h, hmem, rfl⟩ := List.mem_map.mp hh
    obtain ⟨howner, hlen, hhas, hline⟩ := hslots h hmem
    by_cases hn : h.number = n
    · rw [if_pos hn]
      exact ⟨howner, layOver_length hlen hlength, hasBytes_layOver hlen hlength hbytes, hline⟩
    · rw [if_neg hn]; exact ⟨howner, hlen, hhas, hline⟩
  · refine List.pairwise_map.mpr (hpairs.imp fun {a b} hab => ?_)
    simp only [apply_ite HeldSlot.line, apply_ite HeldSlot.owner, ite_self]
    exact hab

theorem freeSlot_number_ne {s : State} {n : SlotNo} (h : s.freeSlot = some n) : ∀ x ∈ s.hold, x.number ≠ n := by
  intro x hx hn
  unfold State.freeSlot at h
  cases hl : lowestUnused (s.hold.map fun h => h.number.val) 512 0 with
  | none => rw [hl] at h; cases h
  | some j =>
    rw [hl] at h
    by_cases hj : j < 512
    · simp only [dif_pos hj, Option.some.injEq] at h
      subst h
      exact HeadEnds.lowestUnused_not_mem _ _ hl (List.mem_map.mpr ⟨x, hx, by rw [hn]⟩)
    · simp only [dif_neg hj] at h
      cases h

/-- Where the youngest slot of a line is another context's and not OPEN, so are they all (R44). -/
theorem chain_committed {s : State} (hlaw : s.HoldLaw) {c : ContextIx} (hopen : (s.ctx c).isOpen = true) {line : Addr}
    (hlast : ∀ h, (s.chain line).getLast? = some h → h.owner ≠ c ∧ (s.ctx h.owner).isOpen = false) :
    ∀ h ∈ s.hold, h.line = line → (s.ctx h.owner).isCommitted = true ∧ h.owner ≠ c := by
  obtain ⟨-, hslots, hpairs⟩ := hlaw
  intro h hh hline
  have hcommitted : (s.ctx h.owner).isCommitted = true := by
    have hmem : h ∈ s.chain line := List.mem_filter.mpr ⟨hh, by simpa using hline⟩
    obtain ⟨before, y, hchain⟩ : ∃ before y, s.chain line = before ++ [y] :=
      ⟨_, _, (List.dropLast_append_getLast (List.ne_nil_of_mem hmem)).symm⟩
    have hpairsChain : (before ++ [y]).Pairwise fun a b => a.line = b.line → (s.ctx a.owner).isCommitted = true ∧ a.owner ≠ b.owner := by
      rw [← hchain]; exact hpairs.sublist List.filter_sublist
    have hy : y ∈ s.chain line := by rw [hchain]; simp
    obtain ⟨hyMem, hyLine⟩ := List.mem_filter.mp hy
    rw [hchain] at hmem
    obtain hbefore | hlastEq := List.mem_append.mp hmem
    · exact ((List.pairwise_append.mp hpairsChain).2.2 h hbefore y (List.mem_singleton_self y)
        (hline.trans (of_decide_eq_true hyLine).symm)).1
    · rw [List.mem_singleton.mp hlastEq]
      have hnotOpen := (hlast y (by rw [hchain]; exact List.getLast?_concat ..)).2
      exact ((hslots y hyMem).1).resolve_left (by rw [hnotOpen]; simp)
  refine ⟨hcommitted, fun howner => ?_⟩
  rw [howner] at hcommitted
  cases hc : s.ctx c with
  | opened => rw [hc] at hcommitted; cases hcommitted
  | _ => rw [hc] at hopen; cases hopen

theorem holdLaw_allocateSlot {s : State} (hlaw : s.HoldLaw) {c : ContextIx} {n : SlotNo} {line : Addr} {bytes : LineBytes}
    (hopen : (s.ctx c).isOpen = true) (hfree : s.freeSlot = some n) (hlength : bytes.length = 64)
    (hbytes : hasBytes bytes = true) (hline : line = lineOf line)
    (hlast : ∀ h, (s.chain line).getLast? = some h → h.owner ≠ c ∧ (s.ctx h.owner).isOpen = false) :
    (s.allocateSlot n line bytes c).HoldLaw := by
  have hchain := chain_committed hlaw hopen hlast
  obtain ⟨hnumbers, hslots, hpairs⟩ := hlaw
  refine ⟨?_, fun h hh => ?_, ?_⟩
  · have hmap : (s.allocateSlot n line bytes c).hold.map HeldSlot.number = s.hold.map HeldSlot.number ++ [n] :=
      List.map_append
    rw [hmap, List.nodup_append]
    refine ⟨hnumbers, List.nodup_singleton n, fun a ha b hb => ?_⟩
    obtain ⟨x, hx, rfl⟩ := List.mem_map.mp ha
    rw [List.mem_singleton.mp hb]
    exact freeSlot_number_ne hfree x hx
  · obtain hold | hnew := List.mem_append.mp hh
    · exact hslots h hold
    · rw [List.mem_singleton.mp hnew]
      exact ⟨.inl hopen, hlength, hbytes, hline⟩
  · refine List.pairwise_append.mpr ⟨hpairs, List.pairwise_singleton _ _, fun a ha b hb hab => ?_⟩
    rw [List.mem_singleton.mp hb] at hab ⊢
    exact hchain a ha hab

/-! ### Every move (R43, R44) -/

theorem holdLaw_move (s t : State) (hlaw : s.HoldLaw) (h : Move s t) : t.HoldLaw := by
  cases h with
  | coldReset => exact ⟨List.nodup_nil, fun h hh => (nomatch hh), .nil⟩
  | opened c o last timer hfree => exact holdLaw_set hlaw c (.refl _) (.inr (keepsSlots_of_free hfree))
  | refreshed c x hopen hx => exact holdLaw_set hlaw c (.refl _) (.inr (keepsSlots_of_open hopen hx))
  | failed c x => exact holdLaw_set hlaw c List.filter_sublist (.inl owner_ne_of_dropped)
  | dropped c => exact holdLaw_set hlaw c List.filter_sublist (.inl owner_ne_of_dropped)
  | closed c i w hfailed => exact holdLaw_set hlaw c (.refl _) (.inr (keepsSlots_of_failed hfailed))
  | committed c x i w hopen hx =>
    exact holdLaw_set hlaw c (.refl _) (.inr (keepsSlots_of_committed (isCommitted_of_isQueued hx)))
  | merged n bytes hlength hbytes => exact holdLaw_mergeSlot hlaw n hlength hbytes
  | allocated c n line bytes hopen hfree hlength hbytes hline hlast =>
    exact holdLaw_allocateSlot hlaw hopen hfree hlength hbytes hline hlast
  | taken c rest o f m p g =>
    exact holdLaw_set hlaw c (.refl _) (.inr (keepsSlots_of_committed rfl))
  | flushAcknowledged tag e f v queue hentry href hflight hctx =>
    refine holdLaw_of_sublist hlaw (.refl _) fun h _ => ?_
    have hafter : KeepsSlots (s.ctx h.owner) v[h.owner] := by
      rw [hctx h.owner]
      split
      · exact keepsSlots_durableOf _
      · exact .rfl
    exact hafter
  | journalFault v hctx => exact holdLaw_failsOpen hlaw hctx
  | releaseFault v hctx => exact holdLaw_failsOpen hlaw hctx
  | drainEntered v hctx => exact holdLaw_failsOpen hlaw hctx
  | warmReset v hctx =>
    refine holdLaw_of_sublist hlaw (.refl _) fun h _ => ?_
    have hafter : KeepsSlots (s.ctx h.owner) v[h.owner] := hctx h.owner ▸ keepsSlots_atWarmReset _
    exact hafter
  | cleared => exact ⟨List.nodup_nil, fun h hh => (nomatch hh), .nil⟩
  | releaseTaken c rest o f m pl =>
    exact holdLaw_set hlaw c (.refl _) (.inr (keepsSlots_of_committed rfl))
  | retired p => exact holdLaw_set hlaw p.context List.filter_sublist (.inl owner_ne_of_dropped)
  | _ => exact hlaw

theorem holdLaw_finish (s t : State) (hlaw : s.HoldLaw) (h : Finish s t) : t.HoldLaw := by
  cases h
  exact hlaw

/-- Settles O56. -/
theorem holdBufferLawIsKept : Obligations.HoldBufferLawIsKept := by
  unfold Obligations.HoldBufferLawIsKept
  exact fun s t hlaw h => keep_of_step (fun _ _ hlaw => hlaw) holdLaw_move holdLaw_finish h hlaw

end Sys2Proof.Proofs.HoldBuffer
end

section
/-! PROOF. The laws that tie the engines, the contexts and the binding map to the mode, kept by every move. -/

namespace Sys2Proof.Proofs.Modes
open Sys2Proof Sys2Proof.Machine Sys2Proof.Proofs.Steps Sys2Proof.Proofs.JournalWriter Sys2Proof.Proofs.HoldBuffer
open Sys2Proof.Proofs.Faults Sys2Proof.Proofs.Bounds

/-! ### The engines in the modes (R82, R121, R149) -/

/-- The law of the engines, but for the modes of an anchor update that only its bytes and its start decide: what moves keep without
another law. -/
structure EnginesCore (s : State) : Prop where
  recovering : s.mode = .recovering ↔ s.recovery.phase ≠ .idle
  writer : s.writer.active = true → s.mode ≠ .init ∧ s.mode ≠ .recovering
  release : s.release.active = true → s.mode ≠ .init ∧ s.mode ≠ .recovering
  closing : s.ring.closing = true → s.recovery.phase.isClose = true
  update : s.ring.update ≠ .idle → s.ring.closing = true ∨ s.mode ≠ .init ∧ s.mode ≠ .recovering

theorem EnginesCore.of_law {s : State} (h : s.EnginesInMode) : EnginesCore s := by
  obtain ⟨hrecovering, hwriter, hrelease, hclosing, hupdate⟩ := h
  refine ⟨hrecovering, hwriter, hrelease, hclosing, fun hbusy => (hupdate hbusy).imp_right ?_⟩
  rintro (hm | hm) <;> rw [hm] <;> exact ⟨by decide, by decide⟩

theorem ne_idle_of_isCleared {p : Phase} (h : p.isCleared = true) : p ≠ .idle := by
  rintro rfl; cases h

theorem ne_quiesce_of_isCleared {p : Phase} (h : p.isCleared = true) : p ≠ .quiesce := by
  rintro rfl; cases h

theorem isCleared_of_isClose {p : Phase} (h : p.isClose = true) : p.isCleared = true := by
  cases p with
  | close => rfl
  | _ => cases h

theorem not_init_of_carriesCommits {m : Mode} (h : m.carriesCommits = true) : m ≠ .init ∧ m ≠ .recovering := by
  constructor <;> rintro rfl <;> cases h

namespace EnginesCore
variable {s : State} (h : EnginesCore s)
include h

/-- Outside RECOVERING the recovery engine is IDLE (R149). -/
theorem phase_idle (hmode : s.mode ≠ .recovering) : s.recovery.phase = .idle :=
  not_not.mp fun hphase => hmode (h.recovering.mpr hphase)

theorem mode_of_cleared (hcleared : s.recovery.phase.isCleared = true) : s.mode = .recovering :=
  h.recovering.mpr (ne_idle_of_isCleared hcleared)

/-- With a block at work the mode is neither INIT nor RECOVERING. -/
theorem working (hwhy : s.writer.active = true ∨ s.ring.update ≠ .idle ∧ s.ring.closing = false) :
    s.mode ≠ .init ∧ s.mode ≠ .recovering := by
  obtain hactive | ⟨hbusy, hclosing⟩ := hwhy
  · exact h.writer hactive
  · exact (h.update hbusy).resolve_left (by rw [hclosing]; decide)

theorem cleared_of_fault (hwhy : s.recovery.phase.isCleared = true ∨ s.ring.closing = true) :
    s.recovery.phase.isCleared = true := hwhy.elim id fun hclosing => isCleared_of_isClose (h.closing hclosing)

end EnginesCore

theorem enginesCore_move {s t : State} (h : EnginesCore s) (hmove : Move s t) : EnginesCore t := by
  have hcore := h
  obtain ⟨hrecovering, hwriter, hrelease, hclosing, hupdate⟩ := hcore
  have hworking (m : Mode) (hold : s.mode ≠ .recovering) (hnew : m ≠ .recovering) :
      m = .recovering ↔ s.recovery.phase ≠ .idle :=
    iff_of_false hnew fun hphase => hphase (h.phase_idle hold)
  cases hmove with
  | coldReset => exact .of_law StepAndReset.resetStateIsLawful.enginesInMode
  | taken c rest o f m p g hqueue hctx hgrant hactive hmode =>
    obtain ⟨head, offset, un, pad, -, -, hring⟩ := reserve_record s.ring s.ringSize (recordLength (s.entryCount c)) g
    refine ⟨hrecovering, hwriter, hrelease, ?_, ?_⟩
    · show (s.ring.reserve _ _ g).closing = true → _
      rw [hring]; exact hclosing
    · show (s.ring.reserve _ _ g).update ≠ .idle → (s.ring.reserve _ _ g).closing = true ∨ _
      rw [hring]; exact hupdate
  | updateStarted hidle hmode hbytes =>
    exact ⟨hrecovering, hwriter, hrelease, hclosing, fun _ => .inr (not_init_of_carriesCommits hmode)⟩
  | journalFault v hctx hwhy =>
    exact ⟨hworking .faulted (h.working hwhy).2 nofun, nofun, fun _ => ⟨nofun, nofun⟩, nofun, fun hbusy => (hbusy rfl).elim⟩
  | releaseFault v hctx hwhy =>
    exact ⟨hworking .faulted (hrelease hwhy).2 nofun, fun _ => ⟨nofun, nofun⟩, nofun, nofun, fun hbusy => (hbusy rfl).elim⟩
  | recoveryFault hwhy =>
    exact ⟨iff_of_false nofun fun hphase => hphase rfl, fun _ => ⟨nofun, nofun⟩, fun _ => ⟨nofun, nofun⟩, nofun,
      fun hbusy => (hbusy rfl).elim⟩
  | drainEntered v hctx hmode =>
    exact ⟨hworking .draining (by rw [hmode]; nofun) nofun, fun _ => ⟨nofun, nofun⟩, fun _ => ⟨nofun, nofun⟩, hclosing,
      fun _ => .inr ⟨nofun, nofun⟩⟩
  | drainEnded hdone =>
    have hmode : s.mode = .draining := ((State.drainDone_iff s).mp hdone).1
    exact ⟨hworking .drained (by rw [hmode]; nofun) nofun, fun _ => ⟨nofun, nofun⟩, fun _ => ⟨nofun, nofun⟩, hclosing,
      fun _ => .inr ⟨nofun, nofun⟩⟩
  | drainLeft hmode =>
    exact ⟨hworking .online (by obtain hm | hm := hmode <;> rw [hm] <;> nofun) nofun, fun _ => ⟨nofun, nofun⟩,
      fun _ => ⟨nofun, nofun⟩, hclosing, fun _ => .inr ⟨nofun, nofun⟩⟩
  | started format l hmode =>
    have hidle : s.recovery.phase = .idle := h.phase_idle (by rw [hmode]; nofun)
    have hopen : s.ring.closing ≠ true := fun hc => by have := hclosing hc; rw [hidle] at this; cases this
    exact ⟨iff_of_true rfl nofun, fun ha => absurd hmode (hwriter ha).1, fun ha => absurd hmode (hrelease ha).1,
      fun hc => absurd hc hopen, fun hbusy => (hupdate hbusy).elim .inl fun hm => absurd hmode hm.1⟩
  | warmReset v hctx =>
    exact ⟨iff_of_true rfl nofun, nofun, nofun, nofun, fun hbusy => (hbusy rfl).elim⟩
  | cleared l hquiesced =>
    have hphase : s.recovery.phase = .quiesce := ((RecoveryPath.quiesced_iff s).mp hquiesced).1
    have hmode : s.mode = .recovering := hrecovering.mpr (by rw [hphase]; nofun)
    exact ⟨iff_of_true hmode nofun, hwriter, hrelease, nofun, fun hbusy => (hbusy rfl).elim⟩
  | updateLed u l n hbusy => exact ⟨hrecovering, hwriter, hrelease, hclosing, fun _ => hupdate hbusy⟩
  | updateDone k hk => exact ⟨hrecovering, hwriter, hrelease, hclosing, fun hbusy => (hbusy rfl).elim⟩
  | retired p rest o f m pl =>
    obtain ⟨offset, un, count, again, pad, -, -, -, hring⟩ := retire_record s.ring s.ringSize s.settings.anchorInterval
      pl.offset (recordLength (s.entryCount p.context)) pl.sequence
    refine ⟨hrecovering, hwriter, hrelease, ?_, ?_⟩
    · show (s.ring.retire _ _ _ _ _).closing = true → _
      rw [hring]; exact hclosing
    · show (s.ring.retire _ _ _ _ _).update ≠ .idle → (s.ring.retire _ _ _ _ _).closing = true ∨ _
      rw [hring]; exact hupdate
  | recovered epoch generation copy phase l hbefore hafter hclose =>
    exact ⟨iff_of_true (h.mode_of_cleared hbefore) (ne_idle_of_isCleared hafter), hwriter, hrelease,
      fun hc => hclose (hclosing hc), hupdate⟩
  | closingAsked raise k hbefore =>
    exact ⟨iff_of_true (h.mode_of_cleared hbefore) nofun, hwriter, hrelease, fun _ => rfl, fun _ => .inl rfl⟩
  | _ => exact ⟨hrecovering, hwriter, hrelease, hclosing, hupdate⟩

theorem enginesCore_finish {s t : State} (h : Finish s t) : EnginesCore t := by
  cases h
  exact ⟨iff_of_false nofun fun hphase => hphase rfl, fun _ => ⟨nofun, nofun⟩, fun _ => ⟨nofun, nofun⟩, nofun,
    fun hbusy => (hbusy rfl).elim⟩

/-! ### OPEN contexts in the modes (R37, R38, R39, R148) -/

/-- A change of one context that is not FREE, and OPEN afterwards only where it was. -/
theorem openInMode_set {s : State} (h : s.OpenInMode) (c : ContextIx) {x : Context} (hfree : (s.ctx c).isFree = false)
    (hx : x.isOpen = true → (s.ctx c).isOpen = true) :
    State.OpenInMode { s with contexts := s.contexts.set c x } := by
  obtain ⟨hopen, hcleared⟩ := h
  refine ⟨fun hmode d => ?_, fun hmode => absurd (hcleared hmode c) (by rw [hfree]; decide)⟩
  have hd : State.ctx { s with contexts := s.contexts.set c x } d = if c = d then x else s.ctx d := ctx_set s c x d
  rw [hd]
  split
  · exact Bool.eq_false_iff.mpr fun hx' => absurd (hx hx') (by rw [hopen hmode c]; decide)
  · exact hopen hmode d

theorem isOpen_of_failsOpen {s : State} {freed : List ContextIx} {v : Vector Context 16} (h : FailsOpen s freed v)
    (c : ContextIx) : v[c].isOpen = false := by
  by_cases hgone : c ∈ freed ∧ ((s.ctx c).isQueued = true ∨ (s.ctx c).isWriting = true)
  · rw [(h c).1 hgone]; rfl
  · obtain ⟨r, now, orphan, hv⟩ := (h c).2 hgone
    rw [hv]
    cases s.ctx c <;> rfl

theorem isFree_false_of_open {x : Context} (h : x.isOpen = true) : x.isFree = false := by
  cases x with
  | opened => rfl
  | _ => cases h

theorem isFree_false_of_failed {x : Context} (h : x.isFailed = true) : x.isFree = false := by
  cases x with
  | failed => rfl
  | _ => cases h

theorem isOpen_false_of_failed {x : Context} (h : x.isFailed = true) : x.isOpen = false := by
  cases x with
  | failed => rfl
  | _ => cases h

theorem openInMode_move {s t : State} (hengines : EnginesCore s) (h : s.OpenInMode) (hmove : Move s t) : t.OpenInMode := by
  have hlaw := h
  obtain ⟨hopen, hcleared⟩ := hlaw
  have hidle (m : Mode) (hmode : s.mode ≠ .recovering) (hm : m ≠ .init) (c : Prop) :
      (m = .init ∨ s.recovery.phase.isCleared = true) → c := fun hor =>
    hor.elim (fun he => absurd he hm) fun hphase => absurd (hengines.mode_of_cleared hphase) hmode
  cases hmove with
  | coldReset => exact StepAndReset.resetStateIsLawful.openInMode
  | opened c o last timer hfree hmode =>
    exact ⟨fun hm => by rw [show _ = Mode.online from hmode] at hm; simp at hm, hidle _ (by rw [hmode]; nofun) (by rw [hmode]; nofun) _⟩
  | refreshed c x hc hx => exact openInMode_set h c (isFree_false_of_open hc) fun _ => hc
  | failed c x hc => exact openInMode_set h c (isFree_false_of_open hc) fun _ => hc
  | dropped c i w hc => exact openInMode_set h c (isFree_false_of_open hc) fun _ => hc
  | closed c i w hc => exact openInMode_set h c (isFree_false_of_failed hc) nofun
  | committed c x i w hc => exact openInMode_set h c (isFree_false_of_open hc) fun _ => hc
  | taken c rest o f m p g hqueue hctx => exact openInMode_set h c (by rw [hctx]; rfl) nofun
  | flushAcknowledged tag e f v queue hentry href hflight hctx =>
    have hsame (c : ContextIx) : v[c].isOpen = (s.ctx c).isOpen ∧ v[c].isFree = (s.ctx c).isFree := by
      rw [hctx c]
      split
      · cases s.ctx c <;> exact ⟨rfl, rfl⟩
      · exact ⟨rfl, rfl⟩
    exact ⟨fun hm c => (hsame c).1.trans (hopen hm c), fun hm c => (hsame c).2.trans (hcleared hm c)⟩
  | journalFault v hctx hwhy =>
    exact ⟨fun _ c => isOpen_of_failsOpen hctx c, hidle .faulted (hengines.working hwhy).2 nofun _⟩
  | releaseFault v hctx hwhy =>
    exact ⟨fun _ c => isOpen_of_failsOpen hctx c, hidle .faulted (hengines.release hwhy).2 nofun _⟩
  | recoveryFault hwhy =>
    refine ⟨fun _ c => ?_, fun hm => hm.elim nofun nofun⟩
    have hfree : (s.ctx c).isFree = true := hcleared (.inr (hengines.cleared_of_fault hwhy)) c
    exact Bool.eq_false_iff.mpr fun hc : (s.ctx c).isOpen = true =>
      absurd hfree (by rw [isFree_false_of_open hc]; decide)
  | drainEntered v hctx hmode => exact ⟨fun _ c => isOpen_of_failsOpen hctx c, hidle .draining (by rw [hmode]; nofun) nofun _⟩
  | drainEnded hdone =>
    have hmode : s.mode = .draining := ((State.drainDone_iff s).mp hdone).1
    exact ⟨fun _ => hopen (.inl hmode), hidle .drained (by rw [hmode]; nofun) nofun _⟩
  | drainLeft hmode =>
    exact ⟨fun hm => by simp at hm, hidle .online (by obtain hm | hm := hmode <;> rw [hm] <;> nofun) nofun _⟩
  | started format l hmode => exact ⟨fun hm => by simp at hm, fun _ => hcleared (.inl hmode)⟩
  | warmReset v hctx => exact ⟨fun hm => by simp at hm, fun hm => hm.elim nofun nofun⟩
  | cleared l hquiesced =>
    have hfree (c : ContextIx) : (Vector.replicate 16 Context.free)[c] = .free := by
      simp
    exact ⟨fun _ c => by show (Vector.replicate 16 Context.free)[c].isOpen = false; rw [hfree c]; rfl,
      fun _ c => by show (Vector.replicate 16 Context.free)[c].isFree = true; rw [hfree c]; rfl⟩
  | releaseTaken c rest o f m pl hqueue hctx => exact openInMode_set h c (by rw [hctx]; rfl) nofun
  | retired p rest o f m pl hset hctx => exact openInMode_set h p.context (by rw [hctx]; rfl) nofun
  | recovered epoch generation copy phase l hbefore => exact ⟨hopen, fun _ => hcleared (.inr hbefore)⟩
  | closingAsked raise k hbefore => exact ⟨hopen, fun _ => hcleared (.inr hbefore)⟩
  | _ => exact ⟨hopen, hcleared⟩

theorem openInMode_finish {s t : State} (h : Finish s t) : t.OpenInMode := by
  cases h
  exact ⟨fun hm => by simp at hm, fun hm => hm.elim nofun nofun⟩

/-! ### The binding map (R18, R41) -/

/-- A context that the binding map may name. -/
def Bindable (x : Context) : Prop := x.isOpen = true ∨ x.isFailed = true

/-- A change of a context that its bindings do not see. -/
structure SameBinding (x y : Context) : Prop where
  bindable : Bindable x ↔ Bindable y
  owner : Bindable x → y.owner? = x.owner?

theorem SameBinding.rfl {x : Context} : SameBinding x x := ⟨.rfl, fun _ => Eq.refl _⟩

theorem SameBinding.of_not {x y : Context} (hx : ¬Bindable x) (hy : ¬Bindable y) : SameBinding x y :=
  ⟨iff_of_false hx hy, fun h => absurd h hx⟩

theorem sameBinding_failedBy (x : Context) (r : FailReason) (now : Word64) (orphan : Nat) :
    SameBinding x (x.failedBy r now orphan) := by
  cases x with
  | opened => exact ⟨iff_of_true (.inl rfl) (.inr rfl), fun _ => rfl⟩
  | _ => exact .rfl

theorem not_bindable_of_queued {x : Context} (h : x.isQueued = true) : ¬Bindable x := by
  cases x with
  | queued => rintro (hx | hx) <;> cases hx
  | _ => cases h

theorem not_bindable_of_writing {x : Context} (h : x.isWriting = true) : ¬Bindable x := by
  cases x with
  | writing => rintro (hx | hx) <;> cases hx
  | _ => cases h

theorem not_bindable_free : ¬Bindable .free := by rintro (hx | hx) <;> cases hx

theorem sameBinding_failsOpen {s : State} {freed : List ContextIx} {v : Vector Context 16} (h : FailsOpen s freed v)
    (c : ContextIx) : SameBinding (s.ctx c) v[c] := by
  by_cases hgone : c ∈ freed ∧ ((s.ctx c).isQueued = true ∨ (s.ctx c).isWriting = true)
  · rw [(h c).1 hgone]
    exact .of_not (hgone.2.elim not_bindable_of_queued not_bindable_of_writing) not_bindable_free
  · obtain ⟨r, now, orphan, hv⟩ := (h c).2 hgone
    rw [hv]
    exact sameBinding_failedBy _ _ _ _

theorem sameBinding_durableOf (x : Context) : SameBinding x (durableOf x) := by
  cases x with
  | writing => exact .of_not (not_bindable_of_writing rfl) (by rintro (hx | hx) <;> cases hx)
  | _ => exact .rfl

/-- The binding map stays matched where no binding and, for the bindings, no context changes. -/
theorem bindingsMatch_of_same {s t : State} (h : s.BindingsMatch) (hbindings : t.bindings = s.bindings)
    (hphase : t.recovery.phase ≠ .quiesce → s.recovery.phase ≠ .quiesce)
    (hctx : ∀ c, SameBinding (s.ctx c) (t.ctx c)) : t.BindingsMatch := by
  obtain ⟨hpairs, hnamed, hbound⟩ := h
  refine ⟨hbindings ▸ hpairs, fun b hb => ?_, fun hq c hc => ?_⟩
  · obtain ⟨hbindable, howner⟩ := hnamed b (hbindings ▸ hb)
    exact ⟨(hctx b.context).bindable.mp hbindable, fun o ho => howner o ((hctx b.context).owner hbindable ▸ ho)⟩
  · rw [hbindings]
    exact hbound (hphase hq) c ((hctx c).bindable.mpr hc)

theorem bindingsMatch_set {s : State} (h : s.BindingsMatch) (c : ContextIx) {x : Context} (hx : SameBinding (s.ctx c) x) :
    State.BindingsMatch { s with contexts := s.contexts.set c x } := by
  refine bindingsMatch_of_same h rfl id fun d => ?_
  have hd : State.ctx { s with contexts := s.contexts.set c x } d = if c = d then x else s.ctx d := ctx_set s c x d
  rw [hd]
  by_cases hcd : c = d
  · rw [if_pos hcd, ← hcd]; exact hx
  · rw [if_neg hcd]; exact .rfl

theorem bound_mem {s : State} {i : Initiator} {w : WindowIx} {c : ContextIx} (h : s.boundContext i w = some c) :
    ∃ b ∈ s.bindings, b.context = c ∧ b.initiator = i ∧ b.window = w := by
  obtain ⟨b, hb, hc⟩ := Option.map_eq_some_iff.mp h
  have hpair := List.find?_some hb
  simp only [Bool.and_eq_true, decide_eq_true_eq] at hpair
  exact ⟨b, List.mem_of_find?_eq_some hb, hc, hpair⟩

/-- Two bindings of one pair are one. -/
theorem binding_unique {l : List Binding}
    (hpairs : l.Pairwise fun a b => ¬(a.initiator = b.initiator ∧ a.window = b.window)) {a b : Binding} (ha : a ∈ l)
    (hb : b ∈ l) (hi : a.initiator = b.initiator) (hw : a.window = b.window) : a = b := by
  by_contra hne
  have hsymm : Std.Symm fun a b : Binding => ¬(a.initiator = b.initiator ∧ a.window = b.window) :=
    ⟨fun _ _ hab hba => hab ⟨hba.1.symm, hba.2.symm⟩⟩
  exact hpairs.forall ha hb hne ⟨hi, hw⟩

/-- A context that loses its place in the binding map with its pair. -/
theorem bindingsMatch_unbind {s : State} (h : s.BindingsMatch) (c : ContextIx) {x : Context} {i : Initiator} {w : WindowIx}
    {hold : List HeldSlot} {writer : Writer} (hc : Bindable (s.ctx c)) (hx : ¬Bindable x)
    (hpair : s.boundContext i w = some c ∨ ∃ o ∈ (s.ctx c).owner?, o.initiator = i ∧ o.window = w) :
    State.BindingsMatch { s with
      contexts := s.contexts.set c x
      hold := hold
      bindings := s.bindings.filter fun b => !(b.initiator = i && b.window = w)
      writer := writer } := by
  obtain ⟨hpairs, hnamed, hbound⟩ := h
  have howner : ∃ o ∈ (s.ctx c).owner?, o.initiator = i ∧ o.window = w := by
    refine hpair.elim (fun hb => ?_) id
    obtain ⟨b, hmem, rfl, rfl, rfl⟩ := bound_mem hb
    obtain ⟨-, hof⟩ := hnamed b hmem
    obtain ⟨o, ho⟩ : ∃ o, (s.ctx b.context).owner? = some o := by
      cases hx : s.ctx b.context with
      | free => rw [hx] at hc; exact absurd hc not_bindable_free
      | _ => exact ⟨_, rfl⟩
    exact ⟨o, ho, hof o ho⟩
  obtain ⟨o, ho, rfl, rfl⟩ := howner
  have hkept {b : Binding} : b ∈ (s.bindings.filter fun b => !(b.initiator = o.initiator && b.window = o.window)) ↔
      b ∈ s.bindings ∧ ¬(b.initiator = o.initiator ∧ b.window = o.window) := by
    simp [List.mem_filter, imp_iff_not_or]
  have hd (d : ContextIx) : (s.contexts.set c x)[d] = if c = d then x else s.ctx d := ctx_set s c x d
  refine ⟨hpairs.sublist List.filter_sublist, fun b hb => ?_, fun hq d hx' => ?_⟩
  · obtain ⟨hmem, hne⟩ := hkept.mp hb
    have hbc : c ≠ b.context := by
      rintro rfl
      obtain ⟨hi, hw⟩ := (hnamed b hmem).2 o ho
      exact hne ⟨hi.symm, hw.symm⟩
    show Bindable (s.contexts.set c x)[b.context] ∧ ∀ o ∈ (s.contexts.set c x)[b.context].owner?, _
    rw [hd, if_neg hbc]
    exact hnamed b hmem
  · have hx'' : Bindable (s.contexts.set c x)[d] := hx'
    rw [hd] at hx''
    by_cases hcd : c = d
    · rw [if_pos hcd] at hx''; exact absurd hx'' hx
    · rw [if_neg hcd] at hx''
      obtain ⟨b, hb, hbd⟩ := hbound hq d hx''
      obtain ⟨b₀, hb₀, hb₀c⟩ := hbound hq c hc
      refine ⟨b, hkept.mpr ⟨hb, fun ⟨hi, hw⟩ => hcd ?_⟩, hbd⟩
      obtain ⟨hi₀, hw₀⟩ := (hnamed b₀ hb₀).2 o (hb₀c ▸ ho)
      have hsame : b = b₀ := binding_unique hpairs hb hb₀ (hi.trans hi₀) (hw.trans hw₀)
      rw [← hbd, ← hb₀c, hsame]

/-- A FREE context opened for a pair that the binding map does not name. -/
theorem bindingsMatch_opened {s : State} (h : s.BindingsMatch) (c : ContextIx) (o : Owner) (last : Word64) (timer : Bool)
    (hfree : (s.ctx c).isFree = true) (hunbound : s.boundContext o.initiator o.window = none) :
    State.BindingsMatch { s with
      contexts := s.contexts.set c (.opened o false last timer)
      bindings := s.bindings ++ [⟨o.initiator, o.window, c⟩] } := by
  obtain ⟨hpairs, hnamed, hbound⟩ := h
  have hnone : ∀ b ∈ s.bindings, ¬(b.initiator = o.initiator ∧ b.window = o.window) := by
    have hnotFound := List.find?_eq_none.mp (Option.map_eq_none_iff.mp hunbound)
    exact fun b hb hpair => hnotFound b hb (by simp [hpair.1, hpair.2])
  have hd (d : ContextIx) : (s.contexts.set c (.opened o false last timer))[d] =
      if c = d then .opened o false last timer else s.ctx d := ctx_set s c _ d
  refine ⟨List.pairwise_append.mpr ⟨hpairs, List.pairwise_singleton _ _, fun a ha b hb => ?_⟩, fun b hb => ?_, fun hq d hx => ?_⟩
  · rw [List.mem_singleton.mp hb]; exact hnone a ha
  · show Bindable (s.contexts.set c (.opened o false last timer))[b.context] ∧
      ∀ o' ∈ (s.contexts.set c (.opened o false last timer))[b.context].owner?, _
    rw [hd]
    obtain hold | hnew := List.mem_append.mp hb
    · have hbc : c ≠ b.context := by
        rintro rfl
        obtain hb' | hb' := (hnamed b hold).1
        · rw [isFree_false_of_open hb'] at hfree; cases hfree
        · rw [isFree_false_of_failed hb'] at hfree; cases hfree
      rw [if_neg hbc]
      exact hnamed b hold
    · rw [List.mem_singleton.mp hnew, if_pos rfl]
      exact ⟨.inl rfl, fun o' ho' => by cases ho'; exact ⟨rfl, rfl⟩⟩
  · have hx' : Bindable (s.contexts.set c (.opened o false last timer))[d] := hx
    rw [hd] at hx'
    by_cases hcd : c = d
    · exact ⟨_, List.mem_append_right _ (List.mem_singleton_self _), hcd⟩
    · rw [if_neg hcd] at hx'
      obtain ⟨b, hb, hbd⟩ := hbound hq d hx'
      exact ⟨b, List.mem_append_left _ hb, hbd⟩

theorem bindingsMatch_move {s t : State} (hengines : EnginesCore s) (h : s.BindingsMatch) (hmove : Move s t) :
    t.BindingsMatch := by
  cases hmove with
  | coldReset => exact StepAndReset.resetStateIsLawful.bindingsMatch
  | opened c o last timer hfree hmode hunbound => exact bindingsMatch_opened h c o last timer hfree hunbound
  | refreshed c x hc hx howner => exact bindingsMatch_set h c ⟨iff_of_true (.inl hc) (.inl hx), fun _ => howner⟩
  | failed c x hc hx howner => exact bindingsMatch_set h c ⟨iff_of_true (.inl hc) (.inr hx), fun _ => howner⟩
  | dropped c i w hc hbound => exact bindingsMatch_unbind h c (.inl hc) not_bindable_free (.inl hbound)
  | closed c i w hc hpair => exact bindingsMatch_unbind h c (.inr hc) not_bindable_free hpair
  | committed c x i w hc hx hbound => exact bindingsMatch_unbind h c (.inl hc) (not_bindable_of_queued hx) (.inl hbound)
  | taken c rest o f m p g hqueue hctx =>
    exact bindingsMatch_set h c (.of_not (by rw [hctx]; exact not_bindable_of_queued rfl) (not_bindable_of_writing rfl))
  | flushAcknowledged tag e f v queue hentry href hflight hctx =>
    refine bindingsMatch_of_same h rfl id fun c => ?_
    have hafter : SameBinding (s.ctx c) v[c] := by
      rw [hctx c]
      split
      · exact sameBinding_durableOf _
      · exact .rfl
    exact hafter
  | journalFault v hctx => exact bindingsMatch_of_same h rfl id (sameBinding_failsOpen hctx)
  | releaseFault v hctx => exact bindingsMatch_of_same h rfl id (sameBinding_failsOpen hctx)
  | drainEntered v hctx => exact bindingsMatch_of_same h rfl id (sameBinding_failsOpen hctx)
  | recoveryFault hwhy =>
    exact bindingsMatch_of_same h rfl (fun _ => ne_quiesce_of_isCleared (hengines.cleared_of_fault hwhy)) fun _ => .rfl
  | started format l hmode =>
    exact bindingsMatch_of_same h rfl (fun _ => by rw [hengines.phase_idle (by rw [hmode]; nofun)]; nofun) fun _ => .rfl
  | warmReset v hctx => exact ⟨.nil, nofun, fun hq => (hq rfl).elim⟩
  | cleared l hquiesced =>
    refine ⟨.nil, nofun, fun _ c hc => ?_⟩
    have hfree : (Vector.replicate 16 Context.free)[c] = .free := by simp
    have hb : Bindable (Vector.replicate 16 Context.free)[c] := hc
    rw [hfree] at hb
    exact absurd hb not_bindable_free
  | releaseTaken c rest o f m pl hqueue hctx =>
    exact bindingsMatch_set h c (.of_not (by rw [hctx]; rintro (hx | hx) <;> cases hx) (by rintro (hx | hx) <;> cases hx))
  | retired p rest o f m pl hset hctx =>
    exact bindingsMatch_set h p.context (.of_not (by rw [hctx]; rintro (hx | hx) <;> cases hx) not_bindable_free)
  | recovered epoch generation copy phase l hbefore =>
    exact bindingsMatch_of_same h rfl (fun _ => ne_quiesce_of_isCleared hbefore) fun _ => .rfl
  | closingAsked raise k hbefore =>
    exact bindingsMatch_of_same h rfl (fun _ => ne_quiesce_of_isCleared hbefore) fun _ => .rfl
  | _ => exact h

theorem bindingsMatch_finish {s t : State} (h : s.BindingsMatch) (hfinish : Finish s t) : t.BindingsMatch := by
  cases hfinish with
  | finished tag e k hentry href hphase => exact bindingsMatch_of_same h rfl (fun _ => by rw [hphase]; nofun) fun _ => .rfl

/-! ### Anchor updates and the drained machine (R112, R115, R182, R183) -/

theorem updateHasBytes_move {s t : State} (h : s.UpdateHasBytes) (hmove : Move s t) : t.UpdateHasBytes := by
  cases hmove with
  | coldReset => exact StepAndReset.resetStateIsLawful.updateHasBytes
  | taken c rest o f m p g =>
    obtain ⟨head, offset, un, pad, -, hun, hring⟩ := reserve_record s.ring s.ringSize (recordLength (s.entryCount c)) g
    show (s.ring.reserve _ _ g).update ≠ .idle → (s.ring.reserve _ _ g).closing = true ∨ (s.ring.reserve _ _ g).unanchored ≠ 0
    rw [hring]
    exact fun hbusy => (h hbusy).imp_right fun hne => Nat.pos_iff_ne_zero.mp (Nat.lt_of_lt_of_le (Nat.pos_of_ne_zero hne) hun)
  | updateStarted hidle hmode hbytes => exact fun _ => .inr hbytes
  | journalFault => exact fun hbusy => (hbusy rfl).elim
  | releaseFault => exact fun hbusy => (hbusy rfl).elim
  | recoveryFault => exact fun hbusy => (hbusy rfl).elim
  | warmReset => exact fun hbusy => (hbusy rfl).elim
  | cleared => exact fun hbusy => (hbusy rfl).elim
  | updateLed u l n hbusy => exact fun _ => h hbusy
  | updateDone => exact fun hbusy => (hbusy rfl).elim
  | retired p rest o f m pl =>
    obtain ⟨offset, un, count, again, pad, -, hun, -, hring⟩ := retire_record s.ring s.ringSize s.settings.anchorInterval
      pl.offset (recordLength (s.entryCount p.context)) pl.sequence
    show (s.ring.retire _ _ _ _ _).update ≠ .idle →
      (s.ring.retire _ _ _ _ _).closing = true ∨ (s.ring.retire _ _ _ _ _).unanchored ≠ 0
    rw [hring]
    exact fun hbusy => (h hbusy).imp_right fun hne => by
      have : s.ring.unanchored + recordLength (s.entryCount p.context) ≤ un := hun
      show un ≠ 0
      omega
  | closingAsked => exact fun _ => .inl rfl
  | _ => exact h

theorem updateHasBytes_finish {s t : State} (h : Finish s t) : t.UpdateHasBytes := by
  cases h
  exact fun hbusy => (hbusy rfl).elim

/-- An update in flight is the closing update, or the mode is ONLINE or DRAINING (R111). -/
def UpdateInMode (s : State) : Prop :=
  s.ring.update ≠ .idle → s.ring.closing = true ∨ s.mode = .online ∨ s.mode = .draining

theorem UpdateInMode.of_law {s : State} (h : s.EnginesInMode) : UpdateInMode s := by
  obtain ⟨-, -, -, -, hupdate⟩ := h
  exact hupdate

theorem enginesInMode_of {s : State} (h : EnginesCore s) (hupdate : UpdateInMode s) : s.EnginesInMode :=
  ⟨h.recovering, h.writer, h.release, h.closing, hupdate⟩

theorem updateInMode_move {s t : State} (hbytes : s.UpdateHasBytes) (h : UpdateInMode s)
    (hmove : Move s t) : UpdateInMode t := by
  cases hmove with
  | coldReset => exact .of_law StepAndReset.resetStateIsLawful.enginesInMode
  | taken c rest o f m p g =>
    obtain ⟨head, offset, un, pad, -, -, hring⟩ := reserve_record s.ring s.ringSize (recordLength (s.entryCount c)) g
    show (s.ring.reserve _ _ g).update ≠ .idle → (s.ring.reserve _ _ g).closing = true ∨ _
    rw [hring]
    exact h
  | updateStarted hidle hmode =>
    refine fun _ => .inr ?_
    have hm : s.mode.carriesCommits = true := hmode
    show s.mode = _ ∨ s.mode = _
    revert hm
    cases s.mode <;> simp [Mode.carriesCommits]
  | journalFault => exact fun hbusy => (hbusy rfl).elim
  | releaseFault => exact fun hbusy => (hbusy rfl).elim
  | recoveryFault => exact fun hbusy => (hbusy rfl).elim
  | drainEntered => exact fun _ => .inr (.inr rfl)
  | drainEnded hdone =>
    obtain ⟨-, -, -, -, -, -, hnone⟩ := (State.drainDone_iff s).mp hdone
    exact fun hbusy => .inl ((hbytes hbusy).resolve_right (not_not.mpr hnone))
  | drainLeft => exact fun _ => .inr (.inl rfl)
  | started format l hmode =>
    exact fun hbusy => .inl ((h hbusy).resolve_right (by rw [hmode]; simp))
  | warmReset => exact fun hbusy => (hbusy rfl).elim
  | cleared => exact fun hbusy => (hbusy rfl).elim
  | updateLed u l n hbusy => exact fun _ => h hbusy
  | updateDone => exact fun hbusy => (hbusy rfl).elim
  | retired p rest o f m pl =>
    obtain ⟨offset, un, count, again, pad, -, -, -, hring⟩ := retire_record s.ring s.ringSize s.settings.anchorInterval
      pl.offset (recordLength (s.entryCount p.context)) pl.sequence
    show (s.ring.retire _ _ _ _ _).update ≠ .idle → (s.ring.retire _ _ _ _ _).closing = true ∨ _
    rw [hring]
    exact h
  | closingAsked => exact fun _ => .inl rfl
  | _ => exact h

theorem updateInMode_finish {s t : State} (h : Finish s t) : UpdateInMode t := by
  cases h
  exact fun hbusy => (hbusy rfl).elim

theorem drainedIsEmpty_move {s t : State} (hopen : s.OpenInMode) (h : s.DrainedIsEmpty) (hmove : Move s t) :
    t.DrainedIsEmpty := by
  have hcarries (hmode : s.mode.carriesCommits = true) (P : Prop) (hdrained : s.mode = .drained) : P := by
    rw [hdrained] at hmode; cases hmode
  cases hmove with
  | coldReset => exact StepAndReset.resetStateIsLawful.drainedIsEmpty
  | committed c x i w hc =>
    exact fun hdrained => absurd hc (by rw [hopen.1 (.inr (.inl hdrained)) c]; decide)
  | taken c rest o f m p g hqueue hctx hgrant hactive hmode => exact hcarries hmode _
  | flushPresented hbatch =>
    exact fun hdrained => absurd (h hdrained).2.1 hbatch
  | flushGranted contexts hflight =>
    intro hdrained
    obtain ⟨-, -, hnone, -⟩ := h hdrained
    rw [hnone] at hflight; cases hflight
  | writeGranted done more b q hbatch =>
    intro hdrained
    obtain ⟨-, hnone, -⟩ := h hdrained
    rw [hnone] at hbatch
    simp at hbatch
  | progressed l w hl =>
    intro hdrained
    obtain ⟨hcommits, hbatch, hflight, hqueue, hset, hun⟩ := h hdrained
    rw [hset] at hl
    exact ⟨hcommits, hbatch, hflight, hqueue, List.map_eq_nil_iff.mp hl, hun⟩
  | writeAcknowledged tag e c =>
    intro hdrained
    obtain ⟨hcommits, hbatch, hrest⟩ := h hdrained
    refine ⟨hcommits, ?_, hrest⟩
    show List.map _ s.writer.openBatch = []
    rw [hbatch]; rfl
  | flushAcknowledged tag e f v queue hentry href hflight =>
    intro hdrained
    obtain ⟨-, -, hnone, -⟩ := h hdrained
    rw [hnone] at hflight; cases hflight
  | updateStarted => exact h
  | drainEnded hdone =>
    obtain ⟨-, hempty⟩ := (State.drainDone_iff s).mp hdone
    exact fun _ => hempty
  | updateDone k =>
    intro hdrained
    obtain ⟨hcommits, hbatch, hflight, hqueue, hset, hun⟩ := h hdrained
    refine ⟨hcommits, hbatch, hflight, hqueue, hset, ?_⟩
    show s.ring.unanchored - k.unanchored = 0
    rw [hun, Nat.zero_sub]
  | releaseTaken c rest o f m pl hqueue =>
    intro hdrained
    obtain ⟨-, -, -, hnone, -⟩ := h hdrained
    rw [hnone] at hqueue; cases hqueue
  | retired p rest o f m pl hset =>
    intro hdrained
    obtain ⟨-, -, -, -, hnone, -⟩ := h hdrained
    rw [hnone] at hset; cases hset
  | journalFault => exact nofun
  | releaseFault => exact nofun
  | recoveryFault => exact nofun
  | drainEntered => exact nofun
  | drainLeft => exact nofun
  | started => exact nofun
  | warmReset => exact nofun
  | cleared => exact fun _ => ⟨rfl, rfl, rfl, rfl, rfl, rfl⟩
  | _ => exact h

theorem drainedIsEmpty_finish {s t : State} (h : Finish s t) : t.DrainedIsEmpty := by
  cases h
  exact nofun

/-! ### The laws of the modes together -/

/-- The laws that tie engines, contexts, bindings, updates and a drained machine to the mode. -/
structure ModeLaws (s : State) : Prop where
  engines : EnginesCore s
  openContexts : s.OpenInMode
  bindings : s.BindingsMatch
  updateBytes : s.UpdateHasBytes
  updateMode : UpdateInMode s
  drained : s.DrainedIsEmpty

theorem modeLaws_move (s t : State) (h : ModeLaws s) (hmove : Move s t) : ModeLaws t where
  engines := enginesCore_move h.engines hmove
  openContexts := openInMode_move h.engines h.openContexts hmove
  bindings := bindingsMatch_move h.engines h.bindings hmove
  updateBytes := updateHasBytes_move h.updateBytes hmove
  updateMode := updateInMode_move h.updateBytes h.updateMode hmove
  drained := drainedIsEmpty_move h.openContexts h.drained hmove

theorem modeLaws_finish (s t : State) (h : ModeLaws s) (hfinish : Finish s t) : ModeLaws t where
  engines := enginesCore_finish hfinish
  openContexts := openInMode_finish hfinish
  bindings := bindingsMatch_finish h.bindings hfinish
  updateBytes := updateHasBytes_finish hfinish
  updateMode := updateInMode_finish hfinish
  drained := drainedIsEmpty_finish hfinish

theorem modeLaws_pending (s : State) (rest : List Instr) (h : ModeLaws s) : ModeLaws { s with pending := rest } where
  engines := ⟨h.engines.recovering, h.engines.writer, h.engines.release, h.engines.closing, h.engines.update⟩
  openContexts := h.openContexts
  bindings := h.bindings
  updateBytes := h.updateBytes
  updateMode := h.updateMode
  drained := h.drained

/-- Settles O55: every move keeps the laws of the modes, and the end of a recovery restores them. -/
theorem enginesAndBindingsFollowTheMode : Obligations.EnginesAndBindingsFollowTheMode := by
  unfold Obligations.EnginesAndBindingsFollowTheMode
  intro s t hengines hopen hbindings hbytes hdrained hstep
  have hlaws := keep_of_step modeLaws_pending modeLaws_move modeLaws_finish hstep
    ⟨.of_law hengines, hopen, hbindings, hbytes, .of_law hengines, hdrained⟩
  exact ⟨enginesInMode_of hlaws.engines hlaws.updateMode, hlaws.openContexts, hlaws.bindings, hlaws.updateBytes,
    hlaws.drained⟩

end Sys2Proof.Proofs.Modes
end

section
/-! PROOF. Every answer owed is matched by its requests in flight, kept by every move. -/

namespace Sys2Proof.Proofs.Owed
open Sys2Proof Sys2Proof.Machine Sys2Proof.Proofs.Steps Sys2Proof.Proofs.Bounds Sys2Proof.Proofs.Faults

/-! ### The outstanding requests of a reference (R172) -/

theorem tagsDistinct_move {s t : State} (h : s.TagsDistinct) (hmove : Move s t) : t.TagsDistinct := by
  cases hmove with
  | coldReset => exact StepAndReset.resetStateIsLawful.tagsDistinct
  | ingressGranted x rest hhand hroom => exact (issue_bounds _ _ _ h hroom).2
  | flushGranted contexts hflight hroom => exact (issue_bounds _ _ _ h hroom).2
  | writeGranted done more b q hbatch hroom => exact (issue_bounds _ _ _ h hroom).2
  | issued p q ref hroom => exact (issue_bounds _ _ _ h hroom).2
  | removed tag => exact (removeEntry_bounds tag h).2
  | counted tag => exact (removeEntry_bounds tag h).2
  | answered tag => exact (removeEntry_bounds tag h).2
  | readEnded tag => exact (removeEntry_bounds tag h).2
  | writeAcknowledged tag => exact (removeEntry_bounds tag h).2
  | flushAcknowledged tag => exact (removeEntry_bounds tag h).2
  | _ => exact h

theorem tagsDistinct_finish {s t : State} (h : s.TagsDistinct) (hfinish : Finish s t) : t.TagsDistinct := by
  cases hfinish with
  | finished tag => exact (removeEntry_bounds tag h).2

theorem outstandingFor_issue (s : State) (p : Port) (q : DownRequest) (ref r : Ref) :
    (s.issue p q ref).outstandingFor r = s.outstandingFor r + if ref = r then 1 else 0 := by
  show (List.filter (fun e : OutEntry => decide (e.ref = r)) (s.downstream.outstanding ++ [_])).length = _
  rw [List.filter_append, List.length_append]
  congr 1
  by_cases hr : ref = r <;> simp [hr]

/-- With distinct tags the filter by a tag takes out exactly the entry that carries it. -/
theorem length_filter_removed (r : Ref) {e : OutEntry} : ∀ {l : List OutEntry}, (l.map OutEntry.tag).Nodup → e ∈ l →
    ((l.filter fun x => x.tag ≠ e.tag).filter fun x => x.ref = r).length + (if e.ref = r then 1 else 0) =
      (l.filter fun x => x.ref = r).length
  | [], _, h => nomatch h
  | x :: l, htags, h => by
    obtain ⟨hx, hl⟩ := List.nodup_cons.mp htags
    obtain rfl | hmem := List.mem_cons.mp h
    · have hrest : l.filter (fun y => y.tag ≠ e.tag) = l := List.filter_eq_self.mpr fun y hy => by
        have hne : y.tag ≠ e.tag := fun hty => hx (hty ▸ List.mem_map_of_mem hy)
        simpa using hne
      rw [List.filter_cons_of_neg (by simp), hrest]
      by_cases hr : e.ref = r <;> simp [hr]
    · have hne : x.tag ≠ e.tag := fun hxe => hx (hxe ▸ List.mem_map_of_mem hmem)
      have ih := length_filter_removed r hl hmem
      rw [List.filter_cons_of_pos (by simpa using hne)]
      by_cases hr : x.ref = r
      · rw [List.filter_cons_of_pos (by simpa using hr), List.filter_cons_of_pos (by simpa using hr), List.length_cons,
          List.length_cons]
        omega
      · rw [List.filter_cons_of_neg (by simpa using hr), List.filter_cons_of_neg (by simpa using hr)]
        exact ih

theorem entry_mem {s : State} {tag : XferTag} {e : OutEntry} (h : s.entry tag = some e) :
    e ∈ s.downstream.outstanding ∧ e.tag = tag :=
  ⟨List.mem_of_find?_eq_some h, by simpa using List.find?_some h⟩

theorem outstandingFor_removeEntry {s : State} {tag : XferTag} {e : OutEntry} (htags : s.TagsDistinct)
    (hentry : s.entry tag = some e) (r : Ref) :
    (s.removeEntry tag).outstandingFor r + (if e.ref = r then 1 else 0) = s.outstandingFor r := by
  obtain ⟨hmem, rfl⟩ := entry_mem hentry
  exact length_filter_removed r htags hmem

/-- An outstanding request counts for its reference. -/
theorem outstandingFor_pos {s : State} {tag : XferTag} {e : OutEntry} (hentry : s.entry tag = some e) :
    0 < s.outstandingFor e.ref :=
  List.length_pos_of_mem (List.mem_filter.mpr ⟨(entry_mem hentry).1, by simp⟩)

/-! ### Requests and their owners (R172, R173) -/

theorem reserve_toIssue (g : Machine.Ring) (size n : Nat) (x : Grant) : (g.reserve size n x).toIssue = g.toIssue := by
  obtain ⟨head, offset, un, pad, -, -, hring⟩ := reserve_record g size n x
  rw [hring]

theorem retire_toIssue (g : Machine.Ring) (size interval o n : Nat) (q : Word64) :
    (g.retire size interval o n q).toIssue = g.toIssue := by
  obtain ⟨offset, un, count, again, pad, -, -, -, hring⟩ := retire_record g size interval o n q
  rw [hring]

theorem refsOfOwners_move {s t : State} (h : s.RefsOfOwners) (hmove : Move s t) : t.RefsOfOwners := by
  obtain ⟨hhand, hring, hrecovery⟩ := h
  cases hmove with
  | coldReset => exact StepAndReset.resetStateIsLawful.refsOfOwners
  | handedOver r requests =>
    refine ⟨fun x hx => ?_, hring, hrecovery⟩
    obtain hold | hnew := List.mem_append.mp hx
    · exact hhand x hold
    · obtain ⟨q, -, rfl⟩ := List.mem_map.mp hnew
      rfl
  | tracked k e request =>
    refine ⟨fun x hx => ?_, hring, hrecovery⟩
    obtain hold | hnew := List.mem_append.mp hx
    · exact hhand x hold
    · rw [List.mem_singleton.mp hnew]
      rfl
  | taken c rest o f m p g =>
    refine ⟨hhand, fun q hq => hring q ?_, hrecovery⟩
    have hq' : q ∈ (s.ring.reserve s.ringSize (recordLength (s.entryCount c)) g).toIssue := hq
    rwa [reserve_toIssue] at hq'
  | retired p rest o f m pl =>
    refine ⟨hhand, fun q hq => hring q ?_, hrecovery⟩
    have hq' : q ∈ (s.ring.retire s.ringSize s.settings.anchorInterval pl.offset (recordLength (s.entryCount p.context))
      pl.sequence).toIssue := hq
    rwa [retire_toIssue] at hq'
  | updateStarted => exact ⟨hhand, fun q hq => by rw [List.mem_singleton.mp hq]; rfl, hrecovery⟩
  | ingressGranted x rest hx => exact ⟨fun y hy => hhand y (by rw [hx]; exact List.mem_cons_of_mem _ hy), hring, hrecovery⟩
  | ringIssued => exact ⟨hhand, fun q hq => hring q (List.mem_of_mem_tail hq), hrecovery⟩
  | recoveryIssued => exact ⟨hhand, hring, fun q hq => hrecovery q (List.mem_of_mem_tail hq)⟩
  | journalFault => exact ⟨hhand, nofun, hrecovery⟩
  | releaseFault => exact ⟨hhand, nofun, hrecovery⟩
  | recoveryFault => exact ⟨hhand, nofun, nofun⟩
  | started format l hmode hports => exact ⟨hhand, hring, hports⟩
  | warmReset =>
    refine ⟨fun x hx => ?_, nofun, nofun⟩
    obtain ⟨y, hy, rfl⟩ := List.mem_map.mp hx
    exact hhand y hy
  | cleared l hquiesced hports => exact ⟨hhand, nofun, hports⟩
  | updateLed u l n hbusy hports => exact ⟨hhand, fun q hq => (hports q hq).elim id (hring q), hrecovery⟩
  | updateDone => exact ⟨hhand, nofun, hrecovery⟩
  | recovered epoch generation copy phase l hbefore hafter hclose hports =>
    exact ⟨hhand, hring, fun q hq => (hports q hq).elim id (hrecovery q)⟩
  | closingAsked => exact ⟨hhand, fun q hq => by rw [List.mem_singleton.mp hq]; rfl, nofun⟩
  | _ => exact ⟨hhand, hring, hrecovery⟩

theorem refsOfOwners_finish {s t : State} (h : s.RefsOfOwners) (hfinish : Finish s t) : t.RefsOfOwners := by
  obtain ⟨hhand, hring, hrecovery⟩ := h
  cases hfinish
  exact ⟨hhand, nofun, nofun⟩

/-! ### The answers (R66, R74, R169) -/

/-- Where no request of the ingress side comes or goes, its answers stay owed. -/
theorem answersOwed_of_same {s t : State} (h : s.AnswersOwed) (hanswers : t.ingress.answers = s.ingress.answers)
    (hnext : t.ingress.nextAnswer = s.ingress.nextAnswer) (htracking : t.tracking = s.tracking)
    (hflight : ∀ ref : Ref, ref.port = .ingress → t.inFlight ref = s.inFlight ref) : t.AnswersOwed := by
  obtain ⟨hids, howed, hnone, htracked⟩ := h
  have htrack (k : EntryNo) : t.trackEntry k = s.trackEntry k := by unfold State.trackEntry; rw [htracking]
  refine ⟨hanswers ▸ hids, fun p hp => ?_, fun n hn => ?_, fun k => ?_⟩
  · obtain ⟨hid, hone, hcount⟩ := howed p (hanswers ▸ hp)
    exact ⟨hnext ▸ hid, hone, (hflight _ rfl).trans hcount⟩
  · exact (hflight _ rfl).trans (hnone n (hanswers ▸ hn))
  · rw [hflight _ rfl, htrack k]; exact htracked k

/-- A request of another port issued. -/
theorem answersOwed_issue {s t : State} (h : s.AnswersOwed) (p : Port) (q : DownRequest) {ref : Ref} (href : ref.port ≠ .ingress)
    (hanswers : t.ingress = s.ingress) (htracking : t.tracking = s.tracking) (hdown : t.downstream = (s.issue p q ref).downstream) :
    t.AnswersOwed := by
  refine answersOwed_of_same h (by rw [hanswers]) (by rw [hanswers]) htracking fun r hr => ?_
  have hout : t.outstandingFor r = (s.issue p q ref).outstandingFor r := by unfold State.outstandingFor; rw [hdown]
  have hne : ref ≠ r := by rintro rfl; exact href hr
  unfold State.inFlight
  rw [hanswers, hout, outstandingFor_issue, if_neg hne, Nat.add_zero]

/-- The entry of another port's request removed. -/
theorem answersOwed_removeEntry {s t : State} (h : s.AnswersOwed) (htags : s.TagsDistinct) {tag : XferTag} {e : OutEntry}
    (hentry : s.entry tag = some e) (hport : e.ref.port ≠ .ingress) (hanswers : t.ingress = s.ingress)
    (htracking : t.tracking = s.tracking) (hdown : t.downstream = (s.removeEntry tag).downstream) : t.AnswersOwed := by
  refine answersOwed_of_same h (by rw [hanswers]) (by rw [hanswers]) htracking fun r hr => ?_
  have hout : t.outstandingFor r = (s.removeEntry tag).outstandingFor r := by unfold State.outstandingFor; rw [hdown]
  have hremoved := outstandingFor_removeEntry htags hentry r
  rw [if_neg (by rintro rfl; exact hport hr), Nat.add_zero] at hremoved
  unfold State.inFlight
  rw [hanswers, hout, hremoved]

/-- Removing an entry takes one request out of flight. -/
theorem inFlight_removeEntry {s : State} (htags : s.TagsDistinct) {tag : XferTag} {e : OutEntry}
    (hentry : s.entry tag = some e) (r : Ref) :
    (s.removeEntry tag).inFlight r + (if e.ref = r then 1 else 0) = s.inFlight r := by
  have hremoved := outstandingFor_removeEntry htags hentry r
  show (s.ingress.handOver.filter fun h => h.ref = r).length + (s.removeEntry tag).outstandingFor r + _ = _
  unfold State.inFlight
  omega

theorem length_filter_ref {l : List HandOver} {r : Ref} (hl : ∀ x ∈ l, x.ref = r) (ref : Ref) :
    (l.filter fun x => x.ref = ref).length = if ref = r then l.length else 0 := by
  by_cases href : ref = r
  · rw [if_pos href, List.filter_eq_self.mpr fun x hx => by simp [hl x hx, href]]
  · rw [if_neg href, List.filter_eq_nil_iff.mpr fun x hx => by simpa [hl x hx] using fun he => href he.symm, List.length_nil]

theorem answersOwed_handOver {s : State} (h : s.AnswersOwed) (r : Requester) {requests : List DownRequest}
    (hsome : requests ≠ []) : (s.handOver r requests).AnswersOwed := by
  obtain ⟨hids, howed, hnone, htracked⟩ := h
  have hflight (ref : Ref) : (s.handOver r requests).inFlight ref =
      s.inFlight ref + if ref = .pendingAnswer s.ingress.nextAnswer then requests.length else 0 := by
    have hrequests := length_filter_ref (r := .pendingAnswer s.ingress.nextAnswer)
      (l := requests.map fun q => ⟨q, .pendingAnswer s.ingress.nextAnswer, false⟩)
      (fun x hx => by obtain ⟨q, -, rfl⟩ := List.mem_map.mp hx; rfl) ref
    rw [List.length_map] at hrequests
    show (List.filter _ (s.ingress.handOver ++ requests.map _)).length + s.outstandingFor ref = _
    rw [List.filter_append, List.length_append, hrequests]
    unfold State.inFlight
    omega
  have hnew : s.ingress.nextAnswer ∉ s.ingress.answers.map PendingAnswer.id := by
    intro hmem
    obtain ⟨p, hp, hid⟩ := List.mem_map.mp hmem
    exact absurd (howed p hp).1 (by rw [hid]; exact Nat.lt_irrefl _)
  refine ⟨?_, fun p hp => ?_, fun n hn => ?_, fun k => ?_⟩
  · show (List.map PendingAnswer.id (s.ingress.answers ++ [_])).Nodup
    rw [List.map_append]
    refine List.nodup_append.mpr ⟨hids, List.nodup_singleton _, fun a ha b hb hab => hnew ?_⟩
    rw [List.map_singleton, List.mem_singleton] at hb
    rw [hab, hb] at ha
    exact ha
  · show p.id < s.ingress.nextAnswer + 1 ∧ _
    rw [hflight]
    obtain hold | hp' := List.mem_append.mp hp
    · obtain ⟨hid, hone, hcount⟩ := howed p hold
      have hne : Ref.pendingAnswer p.id ≠ .pendingAnswer s.ingress.nextAnswer := by
        rw [Ne, Ref.pendingAnswer.injEq]; omega
      rw [if_neg hne]
      exact ⟨by omega, hone, hcount⟩
    · rw [List.mem_singleton.mp hp', if_pos rfl, hnone _ hnew]
      exact ⟨Nat.lt_succ_self _, List.length_pos_iff.mpr hsome, Nat.zero_add _⟩
  · have hn' : n ∉ List.map PendingAnswer.id (s.ingress.answers ++ [⟨s.ingress.nextAnswer, r, requests.length, false⟩]) := hn
    rw [List.map_append, List.mem_append, not_or, List.map_singleton, List.mem_singleton] at hn'
    rw [hflight, if_neg (by rw [Ref.pendingAnswer.injEq]; exact hn'.2)]
    exact hnone n hn'.1
  · rw [hflight, if_neg nofun]
    exact htracked k

theorem trackEntry_setTrack (s : State) (k j : EntryNo) (x : Option TrackEntry) :
    (s.setTrack k x).trackEntry j = if k = j then x else s.trackEntry j := by
  unfold State.setTrack State.trackEntry
  simp only [Fin.getElem_fin, Vector.getElem_set, Fin.ext_iff]

theorem answersOwed_tracked {s : State} (h : s.AnswersOwed) (k : EntryNo) (e : TrackEntry) (request : DownRequest)
    (hfree : s.trackEntry k = none) : ((s.setTrack k (some e)).handOverTracked k request).AnswersOwed := by
  obtain ⟨hids, howed, hnone, htracked⟩ := h
  have hflight (ref : Ref) : ((s.setTrack k (some e)).handOverTracked k request).inFlight ref =
      s.inFlight ref + if ref = .tracking k then 1 else 0 := by
    have hrequest := length_filter_ref (r := .tracking k) (l := [⟨request, .tracking k, false⟩])
      (fun x hx => by rw [List.mem_singleton.mp hx]) ref
    show (List.filter _ (s.ingress.handOver ++ [_])).length + s.outstandingFor ref = _
    rw [List.filter_append, List.length_append, hrequest]
    unfold State.inFlight
    rw [List.length_singleton]
    omega
  refine ⟨hids, fun p hp => ?_, fun n hn => ?_, fun j => ?_⟩
  · rw [hflight, if_neg nofun]; exact howed p hp
  · rw [hflight, if_neg nofun]; exact hnone n hn
  · have htrack : ((s.setTrack k (some e)).handOverTracked k request).trackEntry j = if k = j then some e else s.trackEntry j :=
      trackEntry_setTrack s k j (some e)
    rw [hflight, htrack, htracked j]
    by_cases hj : k = j
    · subst hj; rw [hfree]; simp
    · have hne : Ref.tracking j ≠ .tracking k := by rw [Ne, Ref.tracking.injEq]; exact fun h => hj h.symm
      rw [if_neg hj, if_neg hne, Nat.add_zero]

/-- The READ of a tracking entry has been answered: the entry is freed with the one request it counts (R74). -/
theorem answersOwed_readEnded {s : State} (h : s.AnswersOwed) (htags : s.TagsDistinct) {tag : XferTag} {e : OutEntry}
    {k : EntryNo} (hentry : s.entry tag = some e) (href : e.ref = .tracking k) :
    ((s.removeEntry tag).setTrack k none).AnswersOwed := by
  obtain ⟨hids, howed, hnone, htracked⟩ := h
  have hflight (ref : Ref) : ((s.removeEntry tag).setTrack k none).inFlight ref + (if Ref.tracking k = ref then 1 else 0) =
      s.inFlight ref := by
    rw [← href]; exact inFlight_removeEntry htags hentry ref
  refine ⟨hids, fun p hp => ?_, fun n hn => ?_, fun j => ?_⟩
  · have := hflight (.pendingAnswer p.id)
    rw [if_neg nofun, Nat.add_zero] at this
    rw [this]; exact howed p hp
  · have := hflight (.pendingAnswer n)
    rw [if_neg nofun, Nat.add_zero] at this
    rw [this]; exact hnone n hn
  · have htrack : ((s.removeEntry tag).setTrack k none).trackEntry j = if k = j then none else s.trackEntry j :=
      trackEntry_setTrack (s.removeEntry tag) k j none
    have hcount := hflight (.tracking j)
    have hj := htracked j
    rw [htrack]
    by_cases hkj : k = j
    · subst hkj
      rw [if_pos rfl] at hcount ⊢
      have hle : s.inFlight (.tracking k) ≤ 1 := by rw [hj]; split <;> decide
      show _ = 0
      omega
    · rw [if_neg (by rw [Ref.tracking.injEq]; exact hkj), Nat.add_zero] at hcount
      rw [if_neg hkj, hcount, hj]

/-- The requests of one pending answer, without the one whose entry leaves (R169). -/
theorem inFlight_counted {s : State} (htags : s.TagsDistinct) {tag : XferTag} {e : OutEntry} {p : PendingAnswer}
    (hentry : s.entry tag = some e) (href : e.ref = .pendingAnswer p.id) (ref : Ref) :
    (s.removeEntry tag).inFlight ref + (if Ref.pendingAnswer p.id = ref then 1 else 0) = s.inFlight ref := by
  rw [← href]; exact inFlight_removeEntry htags hentry ref

/-- Two pending answers of one number are one. -/
theorem answer_unique {l : List PendingAnswer} (hids : (l.map PendingAnswer.id).Nodup) {p q : PendingAnswer} (hp : p ∈ l)
    (hq : q ∈ l) (h : p.id = q.id) : p = q := List.inj_on_of_nodup_map hids hp hq h

theorem answersOwed_counted {s : State} (h : s.AnswersOwed) (htags : s.TagsDistinct) {tag : XferTag} {e : OutEntry}
    {p : PendingAnswer} (failed : Bool) (hentry : s.entry tag = some e) (href : e.ref = .pendingAnswer p.id)
    (hp : p ∈ s.ingress.answers) (hmore : 1 < p.remaining) :
    State.AnswersOwed { s.removeEntry tag with ingress := { s.ingress with answers := s.ingress.answers.map fun q =>
      if q.id = p.id then { q with remaining := q.remaining - 1, failed := failed } else q } } := by
  obtain ⟨hids, howed, hnone, htracked⟩ := h
  have hflight := inFlight_counted htags hentry href
  have hsame : (s.ingress.answers.map fun q : PendingAnswer =>
      if q.id = p.id then { q with remaining := q.remaining - 1, failed := failed } else q).map PendingAnswer.id =
        s.ingress.answers.map PendingAnswer.id := by
    refine (List.map_map ..).trans (List.map_congr_left fun q _ => ?_)
    by_cases hq : q.id = p.id <;> simp [hq]
  refine ⟨?_, fun q hq => ?_, fun n hn => ?_, fun k => ?_⟩
  · show (List.map PendingAnswer.id (s.ingress.answers.map _)).Nodup
    rw [hsame]; exact hids
  · obtain ⟨q, hmem, rfl⟩ := List.mem_map.mp hq
    obtain ⟨hid, hone, hcount⟩ := howed q hmem
    by_cases hqp : q.id = p.id
    · have hqe := answer_unique hids hmem hp hqp
      subst hqe
      have := hflight (.pendingAnswer q.id)
      rw [if_pos rfl, hcount] at this
      rw [if_pos rfl]
      refine ⟨hid, show 1 ≤ q.remaining - 1 by omega, ?_⟩
      show (s.removeEntry tag).inFlight (.pendingAnswer q.id) = q.remaining - 1
      omega
    · have := hflight (.pendingAnswer q.id)
      rw [if_neg (by rw [Ref.pendingAnswer.injEq]; exact fun h => hqp h.symm), Nat.add_zero] at this
      rw [if_neg hqp]
      exact ⟨hid, hone, this.trans hcount⟩
  · have hn' : n ∉ s.ingress.answers.map PendingAnswer.id := hsame ▸ hn
    have := hflight (.pendingAnswer n)
    have hzero := hnone n hn'
    show (s.removeEntry tag).inFlight (.pendingAnswer n) = 0
    omega
  · have := hflight (.tracking k)
    rw [if_neg nofun, Nat.add_zero] at this
    exact this.trans (htracked k)

theorem answersOwed_answered {s : State} (h : s.AnswersOwed) (htags : s.TagsDistinct) {tag : XferTag} {e : OutEntry}
    {p : PendingAnswer} (hentry : s.entry tag = some e) (href : e.ref = .pendingAnswer p.id) (hp : p ∈ s.ingress.answers)
    (hlast : p.remaining ≤ 1) :
    State.AnswersOwed { s.removeEntry tag with ingress := { s.ingress with
      answers := s.ingress.answers.filter fun q => q.id ≠ p.id } } := by
  obtain ⟨hids, howed, hnone, htracked⟩ := h
  have hflight := inFlight_counted htags hentry href
  refine ⟨hids.sublist (List.filter_sublist.map _), fun q hq => ?_, fun n hn => ?_, fun k => ?_⟩
  · obtain ⟨hmem, hqp⟩ := List.mem_filter.mp hq
    obtain ⟨hid, hone, hcount⟩ := howed q hmem
    have := hflight (.pendingAnswer q.id)
    rw [if_neg (by rw [Ref.pendingAnswer.injEq]; exact fun h => of_decide_eq_true hqp h.symm), Nat.add_zero] at this
    exact ⟨hid, hone, this.trans hcount⟩
  · have := hflight (.pendingAnswer n)
    show (s.removeEntry tag).inFlight (.pendingAnswer n) = 0
    by_cases hnp : n = p.id
    · subst hnp
      rw [if_pos rfl, (howed p hp).2.2] at this
      omega
    · have hn' : n ∉ s.ingress.answers.map PendingAnswer.id := fun hmem => by
        obtain ⟨q, hq, rfl⟩ := List.mem_map.mp hmem
        exact hn (List.mem_map_of_mem (List.mem_filter.mpr ⟨hq, by simpa using hnp⟩))
      have hzero := hnone n hn'
      omega
  · have := hflight (.tracking k)
    rw [if_neg nofun, Nat.add_zero] at this
    exact this.trans (htracked k)

/-- An entry that a pending answer or a tracking entry counts is never found without it. -/
theorem port_of_unanswered {s : State} (h : s.AnswersOwed) {tag : XferTag} {e : OutEntry} (hentry : s.entry tag = some e)
    (hanswer : ∀ id, e.ref = .pendingAnswer id → s.ingress.answers.find? (fun p => p.id = id) = none)
    (htracking : ∀ k, e.ref = .tracking k → s.trackEntry k = none) : e.ref.port ≠ .ingress := by
  obtain ⟨-, -, hnone, htracked⟩ := h
  have hpos : 0 < s.inFlight e.ref := Nat.lt_of_lt_of_le (outstandingFor_pos hentry) (Nat.le_add_left _ _)
  intro hport
  cases href : e.ref with
  | pendingAnswer id =>
    rw [href, hnone id fun hmem => by
      obtain ⟨p, hp, hid⟩ := List.mem_map.mp hmem
      exact List.find?_eq_none.mp (hanswer id href) p hp (by simpa using hid)] at hpos
    exact absurd hpos (Nat.lt_irrefl 0)
  | tracking k =>
    rw [href, htracked k, htracking k href] at hpos
    exact absurd hpos (Nat.lt_irrefl 0)
  | _ => rw [href] at hport; cases hport

theorem answersOwed_move {s t : State} (htags : s.TagsDistinct) (hrefs : s.RefsOfOwners) (h : s.AnswersOwed)
    (hmove : Move s t) : t.AnswersOwed := by
  cases hmove with
  | coldReset => exact StepAndReset.resetStateIsLawful.answersOwed
  | handedOver r requests hsome => exact answersOwed_handOver h r hsome
  | tracked k e request hfree => exact answersOwed_tracked h k e request hfree
  | ingressGranted x rest hhand =>
    refine answersOwed_of_same h rfl rfl rfl fun ref _ => ?_
    show (rest.filter _).length + (s.issue .ingress x.request x.ref).outstandingFor ref = _
    rw [outstandingFor_issue]
    unfold State.inFlight
    rw [hhand]
    by_cases hx : x.ref = ref
    · rw [List.filter_cons_of_pos (by simpa using hx), if_pos hx, List.length_cons]; omega
    · rw [List.filter_cons_of_neg (by simpa using hx), if_neg hx]; omega
  | flushGranted contexts => exact answersOwed_issue h .writer .flush (ref := .recordFlush) nofun rfl rfl rfl
  | writeGranted done more b q => exact answersOwed_issue h .writer q (ref := .recordWrite b.context) nofun rfl rfl rfl
  | issued p q ref hroom href =>
    refine answersOwed_issue h p q (ref := ref) ?_ rfl rfl rfl
    obtain ⟨-, hring, hrecovery⟩ := hrefs
    obtain hq | hq | hq := href
    · rw [hring _ hq]; nofun
    · rw [hrecovery _ hq]; nofun
    · rw [hq]; nofun
  | removed tag e hentry hanswer htracking =>
    exact answersOwed_removeEntry h htags hentry (port_of_unanswered h hentry hanswer htracking) rfl rfl rfl
  | counted tag e p failed hentry href hp hmore => exact answersOwed_counted h htags failed hentry href hp hmore
  | answered tag e p hentry href hp hlast => exact answersOwed_answered h htags hentry href hp hlast
  | readEnded tag e k hentry href => exact answersOwed_readEnded h htags hentry href
  | writeAcknowledged tag e c hentry href =>
    exact answersOwed_removeEntry h htags hentry (by rw [href]; nofun) rfl rfl rfl
  | flushAcknowledged tag e f v queue hentry href =>
    exact answersOwed_removeEntry h htags hentry (by rw [href]; nofun) rfl rfl rfl
  | warmReset =>
    refine answersOwed_of_same h rfl rfl rfl fun ref _ => ?_
    show (List.filter _ (s.ingress.handOver.map _)).length + s.outstandingFor ref = _
    rw [List.filter_map, List.length_map]
    rfl
  | _ => exact h

theorem answersOwed_finish {s t : State} (htags : s.TagsDistinct) (h : s.AnswersOwed) (hfinish : Finish s t) :
    t.AnswersOwed := by
  cases hfinish with
  | finished tag e k hentry href => exact answersOwed_removeEntry h htags hentry (by rw [href]; nofun) rfl rfl rfl

/-- What the requests in flight keep together: distinct tags, references of their owners, and the answers owed. -/
def FlightLaws (s : State) : Prop := s.TagsDistinct ∧ s.RefsOfOwners ∧ s.AnswersOwed

/-- Settles O59: every move and the end of a recovery keep the answers owed. -/
theorem noAnswerIsLost : Obligations.NoAnswerIsLost := by
  unfold Obligations.NoAnswerIsLost
  intro s t htags hrefs howed hstep
  have hmove (s t : State) (h : FlightLaws s) (hmove : Move s t) : FlightLaws t := by
    obtain ⟨htags, hrefs, howed⟩ := h
    exact ⟨tagsDistinct_move htags hmove, refsOfOwners_move hrefs hmove, answersOwed_move htags hrefs howed hmove⟩
  have hfinish (s t : State) (h : FlightLaws s) (hf : Finish s t) : FlightLaws t := by
    obtain ⟨htags, hrefs, howed⟩ := h
    exact ⟨tagsDistinct_finish htags hf, refsOfOwners_finish hrefs hf, answersOwed_finish htags howed hf⟩
  exact (keep_of_step (P := FlightLaws) (fun _ _ h => h) hmove hfinish hstep ⟨htags, hrefs, howed⟩).2

end Sys2Proof.Proofs.Owed
end

section
/-! PROOF. The commit pipeline's law, kept by every move. -/

namespace Sys2Proof.Proofs.Pipeline
open Sys2Proof Sys2Proof.Machine Sys2Proof.Proofs.Steps Sys2Proof.Proofs.JournalWriter Sys2Proof.Proofs.HoldBuffer
open Sys2Proof.Proofs.Faults Sys2Proof.Proofs.Bounds

/-! ### Consecutive sequences (R81) -/

theorem consecutiveFrom_append (l₂ : List (Option Word64)) : ∀ (q : Word64) (l₁ : List (Option Word64)),
    consecutiveFrom q (l₁ ++ l₂) = (consecutiveFrom q l₁ && consecutiveFrom (q + BitVec.ofNat 64 l₁.length) l₂)
  | q, [] => by simp [consecutiveFrom]
  | q, x :: l₁ => by
    have hq : q + 1 + BitVec.ofNat 64 l₁.length = q + BitVec.ofNat 64 (l₁.length + 1) := by
      rw [BitVec.add_assoc, BitVec.ofNat_add, BitVec.add_comm (1 : Word64)]
      rfl
    rw [List.cons_append, consecutiveFrom, consecutiveFrom, consecutiveFrom_append l₂ (q + 1) l₁, hq, List.length_cons,
      Bool.and_assoc]

/-! ### Contexts and their places (R17, R36) -/

/-- A context stands in the queue of its state and in no other. -/
structure Placed (x : Context) (queued unflushed released releasing : Prop) : Prop where
  queued : queued ↔ x.isQueued = true
  unflushed : unflushed ↔ x.isWriting = true
  released : released ↔ x.isDurable = true
  releasing : releasing ↔ x.isReleasing = true

/-- A change of a context that the commit pipeline does not see. -/
structure SamePlace (x y : Context) : Prop where
  queued : y.isQueued = x.isQueued
  writing : y.isWriting = x.isWriting
  durable : y.isDurable = x.isDurable
  releasing : y.isReleasing = x.isReleasing
  sequence : y.sequence? = x.sequence?

theorem SamePlace.rfl {x : Context} : SamePlace x x := ⟨Eq.refl _, Eq.refl _, Eq.refl _, Eq.refl _, Eq.refl _⟩

/-- A context that is FREE, OPEN or FAILED stands in no queue. -/
def Outside (x : Context) : Prop := x.isFree = true ∨ x.isOpen = true ∨ x.isFailed = true

theorem samePlace_of_outside {x y : Context} (hx : Outside x) (hy : Outside y) : SamePlace x y := by
  have hplain (z : Context) (hz : Outside z) :
      z.isQueued = false ∧ z.isWriting = false ∧ z.isDurable = false ∧ z.isReleasing = false ∧ z.sequence? = none := by
    cases z with
    | free => exact ⟨rfl, rfl, rfl, rfl, rfl⟩
    | opened => exact ⟨rfl, rfl, rfl, rfl, rfl⟩
    | failed => exact ⟨rfl, rfl, rfl, rfl, rfl⟩
    | _ => obtain h | h | h := hz <;> cases h
  obtain ⟨hxq, hxw, hxd, hxr, hxs⟩ := hplain x hx
  obtain ⟨hyq, hyw, hyd, hyr, hys⟩ := hplain y hy
  exact ⟨hyq.trans hxq.symm, hyw.trans hxw.symm, hyd.trans hxd.symm, hyr.trans hxr.symm, hys.trans hxs.symm⟩

theorem samePlace_failedBy (x : Context) (r : FailReason) (now : Word64) (orphan : Nat) :
    SamePlace x (x.failedBy r now orphan) := by
  cases x with
  | opened => exact ⟨rfl, rfl, rfl, rfl, rfl⟩
  | _ => exact .rfl

theorem samePlace_atWarmReset (x : Context) : SamePlace x x.atWarmReset := by cases x <;> exact ⟨rfl, rfl, rfl, rfl, rfl⟩

/-- Whether the mode is one whose sequences follow the retired tail. -/
def Sequenced (m : Mode) : Prop := m = .online ∨ m = .draining ∨ m = .drained

/-- The law in the words of the places. -/
theorem pipelineLaw_iff (s : State) : s.PipelineLaw ↔
    (s.sealed ++ s.writer.commitQueue).Nodup ∧
      (∀ c, Placed (s.ctx c) (c ∈ s.writer.commitQueue) (c ∈ s.unflushed) (c ∈ s.release.queue)
        (c ∈ s.release.releasing.map Progress.context)) ∧
      consecutiveFrom s.ring.retiredSequence (s.sealed.map fun c => (s.ctx c).sequence?) = true ∧
      (Sequenced s.mode → s.ring.nextSequence = s.ring.retiredSequence + BitVec.ofNat 64 s.sealed.length) := by
  refine and_congr_right' (and_congr ?_ .rfl)
  exact forall_congr' fun c => ⟨fun ⟨hq, hw, hd, hr⟩ => ⟨hq, hw, hd, hr⟩, fun ⟨hq, hw, hd, hr⟩ => ⟨hq, hw, hd, hr⟩⟩

/-- The law is kept where no queue and, for the pipeline, no context changes. -/
theorem pipelineLaw_of_same {s t : State} (h : s.PipelineLaw) (hcommits : t.writer.commitQueue = s.writer.commitQueue)
    (hunflushed : t.unflushed = s.unflushed) (hqueue : t.release.queue = s.release.queue)
    (hset : t.release.releasing.map Progress.context = s.release.releasing.map Progress.context)
    (hctx : ∀ c, SamePlace (s.ctx c) (t.ctx c)) (hretired : t.ring.retiredSequence = s.ring.retiredSequence)
    (hnext : Sequenced t.mode → Sequenced s.mode ∧ t.ring.nextSequence = s.ring.nextSequence) : t.PipelineLaw := by
  obtain ⟨hnodup, hplaced, hseq, hsequence⟩ := (pipelineLaw_iff s).mp h
  have hsealed : t.sealed = s.sealed := by unfold State.sealed; rw [hset, hqueue, hunflushed]
  refine (pipelineLaw_iff t).mpr ⟨by rw [hsealed, hcommits]; exact hnodup, fun c => ?_, ?_, fun hm => ?_⟩
  · obtain ⟨hq, hw, hd, hr⟩ := hplaced c
    obtain ⟨eq, ew, ed, er, -⟩ := hctx c
    rw [hcommits, hunflushed, hqueue, hset]
    exact ⟨eq ▸ hq, ew ▸ hw, ed ▸ hd, er ▸ hr⟩
  · rw [hsealed, hretired, List.map_congr_left fun c _ => (hctx c).sequence]
    exact hseq
  · obtain ⟨hsm, heq⟩ := hnext hm
    rw [heq, hretired, hsealed]
    exact hsequence hsm

theorem pipelineLaw_set {s : State} (h : s.PipelineLaw) (c : ContextIx) {x : Context} (hc : Outside (s.ctx c)) (hx : Outside x) :
    State.PipelineLaw { s with contexts := s.contexts.set c x } := by
  refine pipelineLaw_of_same h rfl rfl rfl rfl (fun d => ?_) rfl fun hm => ⟨hm, rfl⟩
  have hd : State.ctx { s with contexts := s.contexts.set c x } d = if c = d then x else s.ctx d := ctx_set s c x d
  rw [hd]
  by_cases hcd : c = d
  · rw [if_pos hcd, ← hcd]; exact samePlace_of_outside hc hx
  · rw [if_neg hcd]; exact .rfl

/-! ### The moves along the pipeline -/

theorem samePlace_failsOpen_nil {s : State} {v : Vector Context 16} (h : FailsOpen s [] v) (c : ContextIx) :
    SamePlace (s.ctx c) v[c] := by
  obtain ⟨r, now, orphan, hv⟩ := (h c).2 fun hgone => nomatch hgone.1
  rw [hv]
  exact samePlace_failedBy _ _ _ _

theorem Placed.congr {x : Context} {a b c d a' b' c' d' : Prop} (h : Placed x a b c d) (ha : a' ↔ a) (hb : b' ↔ b)
    (hc : c' ↔ c) (hd : d' ↔ d) : Placed x a' b' c' d' :=
  ⟨ha.trans h.queued, hb.trans h.unflushed, hc.trans h.released, hd.trans h.releasing⟩

theorem mem_sealed (s : State) (c : ContextIx) : c ∈ s.sealed ↔
    c ∈ s.release.releasing.map Progress.context ∨ c ∈ s.release.queue ∨ c ∈ s.unflushed := by
  unfold State.sealed
  rw [List.mem_append, List.mem_append, or_assoc]

/-- Another context than the one that moves keeps its place. -/
theorem placed_other {s : State} {c d : ContextIx} {x : Context} (hcd : c ≠ d) {P : Context → Prop} (h : P (s.ctx d)) :
    P (s.contexts.set c x)[d] := by
  rw [ctx_set, if_neg hcd]; exact h

theorem placed_self {s : State} {c : ContextIx} {x : Context} {P : Context → Prop} (h : P x) : P (s.contexts.set c x)[c] := by
  rw [ctx_set, if_pos rfl]; exact h

theorem ne_of_not_mem {c d : ContextIx} {l : List ContextIx} (hc : c ∉ l) (hd : d ∈ l) : c ≠ d := fun h => hc (h ▸ hd)

/-- The sequences of the sealed records do not see a context outside them. -/
theorem sequences_set {s : State} {c : ContextIx} {x : Context} {l : List ContextIx} (hc : c ∉ l) :
    (l.map fun d => (s.contexts.set c x)[d].sequence?) = l.map fun d => (s.ctx d).sequence? :=
  List.map_congr_left fun d hd => by rw [ctx_set, if_neg (ne_of_not_mem hc hd)]

theorem mem_concat_of_ne {c d : ContextIx} {l : List ContextIx} (hcd : c ≠ d) : d ∈ l ++ [c] ↔ d ∈ l := by
  rw [List.mem_append, List.mem_singleton, or_iff_left (Ne.symm hcd)]

theorem mem_cons_of_ne {c d : ContextIx} {l : List ContextIx} (hcd : c ≠ d) : d ∈ c :: l ↔ d ∈ l := by
  rw [List.mem_cons, or_iff_right (Ne.symm hcd)]

theorem pipelineLaw_committed {s : State} (h : s.PipelineLaw) (c : ContextIx) (x : Context) (bindings : List Binding)
    (hopen : (s.ctx c).isOpen = true) (hx : x.isQueued = true) :
    State.PipelineLaw { s with
      contexts := s.contexts.set c x
      bindings := bindings
      writer := { s.writer with commitQueue := s.writer.commitQueue ++ [c] } } := by
  obtain ⟨hnodup, hplaced, hseq, hsequence⟩ := (pipelineLaw_iff s).mp h
  obtain ⟨hnq, hnw, hnd, hnr⟩ : c ∉ s.writer.commitQueue ∧ c ∉ s.unflushed ∧ c ∉ s.release.queue ∧
      c ∉ s.release.releasing.map Progress.context := by
    have hc := hplaced c
    cases hctx : s.ctx c with
    | opened =>
      rw [hctx] at hc
      exact ⟨fun hm => (nomatch hc.queued.mp hm), fun hm => (nomatch hc.unflushed.mp hm),
        fun hm => (nomatch hc.released.mp hm), fun hm => (nomatch hc.releasing.mp hm)⟩
    | _ => rw [hctx] at hopen; cases hopen
  have hns : c ∉ s.sealed := by rw [mem_sealed, not_or, not_or]; exact ⟨hnr, hnd, hnw⟩
  refine (pipelineLaw_iff _).mpr ⟨?_, fun d => ?_, ?_, hsequence⟩
  · show (s.sealed ++ (s.writer.commitQueue ++ [c])).Nodup
    rw [← List.append_assoc, List.nodup_append]
    refine ⟨hnodup, List.nodup_singleton c, fun a ha b hb hab => ?_⟩
    rw [hab, List.mem_singleton.mp hb] at ha
    exact (List.mem_append.mp ha).elim hns hnq
  · show Placed (s.contexts.set c x)[d] (d ∈ s.writer.commitQueue ++ [c]) (d ∈ s.unflushed) (d ∈ s.release.queue)
      (d ∈ s.release.releasing.map Progress.context)
    by_cases hcd : c = d
    · subst hcd
      refine placed_self (P := fun y => Placed y _ _ _ _) ?_
      cases x with
      | queued =>
        exact ⟨iff_of_true (List.mem_append_right _ (List.mem_singleton_self c)) rfl, iff_of_false hnw nofun,
          iff_of_false hnd nofun, iff_of_false hnr nofun⟩
      | _ => cases hx
    · exact placed_other (P := fun y => Placed y _ _ _ _) hcd
        ((hplaced d).congr (mem_concat_of_ne hcd) .rfl .rfl .rfl)
  · show consecutiveFrom s.ring.retiredSequence (s.sealed.map fun d => (s.contexts.set c x)[d].sequence?) = true
    rw [sequences_set hns]
    exact hseq

theorem reserve_sequences (g : Machine.Ring) (size n : Nat) (x : Grant) :
    (g.reserve size n x).retiredSequence = g.retiredSequence ∧ (g.reserve size n x).nextSequence = g.nextSequence + 1 := by
  obtain ⟨head, offset, un, pad, -, -, hring⟩ := reserve_record g size n x
  rw [hring]
  exact ⟨rfl, rfl⟩

theorem retire_sequences (g : Machine.Ring) (size interval o n : Nat) (q : Word64) :
    (g.retire size interval o n q).retiredSequence = q + 1 ∧ (g.retire size interval o n q).nextSequence = g.nextSequence := by
  obtain ⟨offset, un, count, again, pad, -, -, -, hring⟩ := retire_record g size interval o n q
  rw [hring]
  exact ⟨rfl, rfl⟩

theorem sequenced_of_carriesCommits {m : Mode} (h : m.carriesCommits = true) : Sequenced m := by
  cases m with
  | online => exact .inl rfl
  | draining => exact .inr (.inl rfl)
  | _ => cases h

theorem unflushed_takeGranted (s : State) (c : ContextIx) (o : Owner) (f : Bool) (m : CommitMarker) (p : Option Requester)
    (g : Grant) : (s.takeGranted c o f m p g).unflushed = s.unflushed ++ [c] := by
  unfold State.unflushed State.takeGranted
  simp only [List.map_append, List.map_cons, List.map_nil, List.append_assoc]

theorem sealed_takeGranted (s : State) (c : ContextIx) (o : Owner) (f : Bool) (m : CommitMarker) (p : Option Requester)
    (g : Grant) : (s.takeGranted c o f m p g).sealed = s.sealed ++ [c] := by
  unfold State.sealed
  rw [unflushed_takeGranted, ← List.append_assoc]
  rfl

/-- A durable record stays sealed when its release begins (R123). -/
theorem sealed_releaseTaken {s t : State} {c : ContextIx} {rest : List ContextIx} (hqueue : s.release.queue = c :: rest)
    (hset : t.release.releasing.map Progress.context = s.release.releasing.map Progress.context ++ [c])
    (hrest : t.release.queue = rest) (hunflushed : t.unflushed = s.unflushed) : t.sealed = s.sealed := by
  unfold State.sealed
  rw [hset, hqueue, hrest, hunflushed]
  simp

/-! The contexts whose records are unflushed stay when the flush is presented or granted, and a write granted or answered
(R91, R92, R93), and a warm reset keeps them (R146). -/

theorem unflushed_flushPresented {s t : State} (hflight : s.writer.flight = none)
    (hwriter : t.writer = { s.writer with
      openBatch := [], flight := some ⟨s.writer.openBatch.map BatchRecord.context, true⟩ }) : t.unflushed = s.unflushed := by
  unfold State.unflushed
  rw [hwriter, hflight]
  exact List.append_nil _

theorem unflushed_flushGranted {s t : State} {contexts : List ContextIx} (hflight : s.writer.flight = some ⟨contexts, true⟩)
    (hwriter : t.writer = { s.writer with flight := some ⟨contexts, false⟩ }) : t.unflushed = s.unflushed := by
  unfold State.unflushed
  rw [hwriter, hflight]
  rfl

theorem unflushed_writeGranted {s t : State} {done more : List BatchRecord} {b : BatchRecord}
    (hbatch : s.writer.openBatch = done ++ b :: more)
    (hwriter : t.writer = { s.writer with
      openBatch := done ++ { b with toIssue := b.toIssue.tail, unanswered := b.unanswered + 1 } :: more }) :
    t.unflushed = s.unflushed := by
  unfold State.unflushed
  rw [hwriter, hbatch]
  simp

theorem unflushed_countRecordWrite (s : State) (c : ContextIx) : (s.countRecordWrite c).unflushed = s.unflushed := by
  unfold State.unflushed State.countRecordWrite
  simp only [List.map_map]
  refine congrArg _ (List.map_congr_left fun b _ => ?_)
  by_cases hb : b.context = c <;> simp [hb]

theorem unflushed_warmReset {s t : State} (hwriter : t.writer = { s.writer with
      active := false
      openBatch := s.writer.openBatch.map fun b => { b with toIssue := [] }
      flight := s.writer.flight.map fun f => { f with presented := false } }) : t.unflushed = s.unflushed := by
  unfold State.unflushed
  rw [hwriter]
  cases s.writer.flight <;> simp

theorem unflushed_of_flight {s : State} {f : RecordFlush} (hflight : s.writer.flight = some f) :
    s.unflushed = f.contexts ++ s.writer.openBatch.map BatchRecord.context := by
  unfold State.unflushed; rw [hflight]; rfl

/-- A record flush covers each of its contexts once, all WRITING and none of the open batch. -/
theorem covered_of_flight {s : State} (h : s.PipelineLaw) {f : RecordFlush} (hflight : s.writer.flight = some f) :
    f.contexts.Nodup ∧ (∀ c ∈ f.contexts, (s.ctx c).isWriting = true) ∧
      ∀ a ∈ f.contexts, ∀ b ∈ s.writer.openBatch.map BatchRecord.context, a ≠ b := by
  obtain ⟨hnodup, hplaced, -⟩ := (pipelineLaw_iff s).mp h
  have hunflushedNodup : s.unflushed.Nodup :=
    hnodup.sublist ((List.sublist_append_right _ _).trans (List.sublist_append_left _ _))
  rw [unflushed_of_flight hflight] at hunflushedNodup
  obtain ⟨hcovered, -, hdisjoint⟩ := List.nodup_append.mp hunflushedNodup
  exact ⟨hcovered, fun c hc => (hplaced c).unflushed.mp (by rw [unflushed_of_flight hflight]; exact List.mem_append_left _ hc),
    hdisjoint⟩

/-- The records that a flush covers stay sealed (R94). -/
theorem sealed_flushAcknowledged {s t : State} {f : RecordFlush} (hflight : s.writer.flight = some f)
    (hset : t.release.releasing = s.release.releasing) (hqueue : t.release.queue = s.release.queue ++ f.contexts)
    (hunflushed : t.unflushed = s.writer.openBatch.map BatchRecord.context) : t.sealed = s.sealed := by
  unfold State.sealed
  rw [hset, hqueue, hunflushed, unflushed_of_flight hflight]
  simp only [List.append_assoc]

theorem pipelineLaw_taken {s : State} (h : s.PipelineLaw) {c : ContextIx} {rest : List ContextIx} (o : Owner) (f : Bool)
    (m : CommitMarker) (p : Option Requester) (g : Grant) (hqueue : s.writer.commitQueue = c :: rest)
    (hmode : s.mode.carriesCommits = true) : (s.takeGranted c o f m p g).PipelineLaw := by
  obtain ⟨hnodup, hplaced, hseq, hsequence⟩ := (pipelineLaw_iff s).mp h
  have hnext := hsequence (sequenced_of_carriesCommits hmode)
  rw [hqueue] at hnodup
  obtain ⟨hsealedNodup, hqueueNodup, hdisjoint⟩ := List.nodup_append.mp hnodup
  obtain ⟨hnrest, -⟩ := List.nodup_cons.mp hqueueNodup
  have hns : c ∉ s.sealed := fun hm => hdisjoint c hm c (List.mem_cons_self ..) rfl
  have hnsParts := hns
  rw [mem_sealed, not_or, not_or] at hnsParts
  obtain ⟨hnr, hnd, -⟩ := hnsParts
  obtain ⟨hretired, hnextSequence⟩ := reserve_sequences s.ring s.ringSize (recordLength (s.entryCount c)) g
  have hunflushed := unflushed_takeGranted s c o f m p g
  have hsealed := sealed_takeGranted s c o f m p g
  have hcommits : (s.takeGranted c o f m p g).writer.commitQueue = rest := congrArg List.tail hqueue
  refine (pipelineLaw_iff _).mpr ⟨?_, fun d => ?_, ?_, fun _ => ?_⟩
  · rw [hsealed, hcommits, List.append_assoc]
    exact hnodup
  · rw [hcommits, hunflushed]
    show Placed (s.contexts.set c (.writing o f m ⟨s.ring.nextSequence, g.offset⟩ p))[d] (d ∈ rest) (d ∈ s.unflushed ++ [c])
      (d ∈ s.release.queue) (d ∈ s.release.releasing.map Progress.context)
    by_cases hcd : c = d
    · subst hcd
      refine placed_self (P := fun y => Placed y _ _ _ _) ?_
      exact ⟨iff_of_false hnrest nofun, iff_of_true (List.mem_append_right _ (List.mem_singleton_self c)) rfl,
        iff_of_false hnd nofun, iff_of_false hnr nofun⟩
    · refine placed_other (P := fun y => Placed y _ _ _ _) hcd ((hplaced d).congr ?_ (mem_concat_of_ne hcd) .rfl .rfl)
      rw [hqueue]
      exact (mem_cons_of_ne hcd).symm
  · rw [hsealed]
    show consecutiveFrom (s.ring.reserve _ _ g).retiredSequence ((s.sealed ++ [c]).map fun d =>
      (s.contexts.set c (.writing o f m ⟨s.ring.nextSequence, g.offset⟩ p))[d].sequence?) = true
    rw [hretired, List.map_append, sequences_set hns, List.map_singleton, ctx_set, if_pos rfl, consecutiveFrom_append, hseq,
      List.length_map, ← hnext]
    simp [consecutiveFrom, Context.sequence?]
  · rw [hsealed]
    show (s.ring.reserve _ _ g).nextSequence = (s.ring.reserve _ _ g).retiredSequence + _
    rw [hretired, hnextSequence, hnext, List.length_append, List.length_singleton, BitVec.ofNat_add, BitVec.add_assoc]
    rfl

theorem pipelineLaw_releaseTaken {s : State} (h : s.PipelineLaw) {c : ContextIx} {rest : List ContextIx} {o : Owner} {f : Bool}
    {m : CommitMarker} {pl : RecordPlace} (hqueue : s.release.queue = c :: rest) (hctx : s.ctx c = .durable o f m pl) :
    State.PipelineLaw { s with
      contexts := s.contexts.set c (.releasing o f m pl)
      release := { s.release with queue := rest, releasing := s.release.releasing ++ [⟨c, 0, 0, false, false⟩] } } := by
  obtain ⟨hnodup, hplaced, hseq, hsequence⟩ := (pipelineLaw_iff s).mp h
  generalize ht : ({ s with
      contexts := s.contexts.set c (.releasing o f m pl)
      release := { s.release with queue := rest, releasing := s.release.releasing ++ [⟨c, 0, 0, false, false⟩] } } : State) = t
  have hreleasing : t.release.releasing.map Progress.context = s.release.releasing.map Progress.context ++ [c] := by
    rw [← ht]; exact List.map_append
  have hsealed : t.sealed = s.sealed := sealed_releaseTaken hqueue hreleasing (by rw [← ht]) (by rw [← ht]; rfl)
  have hctxSet (d : ContextIx) : t.ctx d = (s.contexts.set c (.releasing o f m pl))[d] := by rw [← ht]; rfl
  have hc := hplaced c
  rw [hctx] at hc
  have hnrest : c ∉ rest := by
    have hsub : (c :: rest).Nodup := by
      rw [← hqueue]
      exact hnodup.sublist (((List.sublist_append_right _ _).trans (List.sublist_append_left _ _)).trans
        (List.sublist_append_left _ _))
    exact (List.nodup_cons.mp hsub).1
  have hrest : t.writer = s.writer ∧ t.unflushed = s.unflushed ∧ t.release.queue = rest ∧ t.ring = s.ring ∧ t.mode = s.mode := by
    rw [← ht]; exact ⟨rfl, rfl, rfl, rfl, rfl⟩
  obtain ⟨hwriter, hunflushed, hreleaseQueue, hring, hmode⟩ := hrest
  refine (pipelineLaw_iff t).mpr ⟨by rw [hsealed, hwriter]; exact hnodup, fun d => ?_, ?_, ?_⟩
  · rw [hctxSet, hwriter, hunflushed, hreleaseQueue, hreleasing]
    by_cases hcd : c = d
    · subst hcd
      refine placed_self (P := fun y => Placed y _ _ _ _) ?_
      exact ⟨iff_of_false (fun hm => nomatch hc.queued.mp hm) nofun, iff_of_false (fun hm => nomatch hc.unflushed.mp hm) nofun,
        iff_of_false hnrest nofun, iff_of_true (List.mem_append_right _ (List.mem_singleton_self c)) rfl⟩
    · refine placed_other (P := fun y => Placed y _ _ _ _) hcd ((hplaced d).congr .rfl .rfl ?_ (mem_concat_of_ne hcd))
      rw [hqueue]
      exact (mem_cons_of_ne hcd).symm
  · rw [hsealed, hring, List.map_congr_left fun d _ => ?_]
    · exact hseq
    · rw [hctxSet, ctx_set]
      split
      next hcd => rw [← hcd, hctx]; rfl
      next => rfl
  · rw [hmode, hring, hsealed]
    exact hsequence

theorem pipelineLaw_retired {s : State} (h : s.PipelineLaw) {p : Progress} {rest : List Progress} {o : Owner} {f : Bool}
    {m : CommitMarker} {pl : RecordPlace} (hset : s.release.releasing = p :: rest)
    (hctx : s.ctx p.context = .releasing o f m pl) :
    State.PipelineLaw { s with
      contexts := s.contexts.set p.context .free
      hold := s.hold.filter fun h => h.owner ≠ p.context
      release := { s.release with releasing := rest }
      ring := s.ring.retire s.ringSize s.settings.anchorInterval pl.offset (recordLength (s.entryCount p.context))
        pl.sequence } := by
  obtain ⟨hnodup, hplaced, hseq, hsequence⟩ := (pipelineLaw_iff s).mp h
  obtain ⟨hretired, hnext⟩ := retire_sequences s.ring s.ringSize s.settings.anchorInterval pl.offset
    (recordLength (s.entryCount p.context)) pl.sequence
  generalize s.ring.retire s.ringSize s.settings.anchorInterval pl.offset (recordLength (s.entryCount p.context))
    pl.sequence = g at hretired hnext ⊢
  generalize ht : ({ s with
      contexts := s.contexts.set p.context .free
      hold := s.hold.filter fun h => h.owner ≠ p.context
      release := { s.release with releasing := rest }
      ring := g } : State) = t
  have hrest : t.writer = s.writer ∧ t.unflushed = s.unflushed ∧ t.release.queue = s.release.queue ∧
      t.release.releasing = rest ∧ t.ring = g ∧ t.mode = s.mode := by
    rw [← ht]; exact ⟨rfl, rfl, rfl, rfl, rfl, rfl⟩
  obtain ⟨hwriter, hunflushed, hqueue, hreleasing, hring, hmode⟩ := hrest
  have hctxSet (d : ContextIx) : t.ctx d = (s.contexts.set p.context .free)[d] := by rw [← ht]; rfl
  have hsealed : s.sealed = p.context :: t.sealed := by
    unfold State.sealed
    rw [hset, hreleasing, hqueue, hunflushed]
    rfl
  have hc := hplaced p.context
  rw [hctx] at hc
  rw [hsealed] at hnodup hseq
  obtain ⟨hnot, hnodupRest⟩ := List.nodup_cons.mp (List.cons_append ▸ hnodup)
  have hns : p.context ∉ t.sealed := fun hm => hnot (List.mem_append_left _ hm)
  have hnsParts := hns
  rw [mem_sealed, not_or] at hnsParts
  rw [List.map_cons, consecutiveFrom, Bool.and_eq_true, hctx] at hseq
  obtain ⟨hfirst, hseqRest⟩ := hseq
  have hplSequence : pl.sequence = s.ring.retiredSequence := by simpa [Context.sequence?] using hfirst
  refine (pipelineLaw_iff t).mpr ⟨by rw [hwriter]; exact hnodupRest, fun d => ?_, ?_, fun hm => ?_⟩
  · rw [hctxSet, hwriter, hunflushed, hqueue, hreleasing]
    by_cases hcd : p.context = d
    · subst hcd
      refine placed_self (P := fun y => Placed y _ _ _ _) ?_
      exact ⟨iff_of_false (fun hm => nomatch hc.queued.mp hm) nofun, iff_of_false (fun hm => nomatch hc.unflushed.mp hm) nofun,
        iff_of_false (fun hm => nomatch hc.released.mp hm) nofun, iff_of_false (hreleasing ▸ hnsParts.1) nofun⟩
    · refine placed_other (P := fun y => Placed y _ _ _ _) hcd ((hplaced d).congr .rfl .rfl .rfl ?_)
      rw [hset, List.map_cons]
      exact (mem_cons_of_ne hcd).symm
  · rw [hring, hretired, hplSequence, List.map_congr_left fun d hd => congrArg Context.sequence? (hctxSet d)]
    rw [sequences_set hns]
    exact hseqRest
  · rw [hring, hnext, hretired, hplSequence, hsequence (hmode ▸ hm), hsealed, List.length_cons, BitVec.add_assoc,
      BitVec.ofNat_add, BitVec.add_comm (1 : Word64)]
    rfl

/-- A record flush acknowledged: the contexts it covers pass from the writer to the release queue (R94). -/
theorem pipelineLaw_flushAcknowledged {s : State} (h : s.PipelineLaw) (tag : XferTag) {f : RecordFlush}
    {v : Vector Context 16} {queue : List ContextIx} (hflight : s.writer.flight = some f)
    (hctx : ∀ x : ContextIx, v[x] = if x ∈ f.contexts then durableOf (s.ctx x) else s.ctx x)
    (hqueue : f.contexts.Nodup → (∀ c ∈ f.contexts, (s.ctx c).isWriting = true) → queue = s.release.queue ++ f.contexts) :
    State.PipelineLaw { s.removeEntry tag with
      contexts := v, writer := { s.writer with flight := none }, release := { s.release with queue := queue } } := by
  obtain ⟨hnodup, hplaced, hseq, hsequence⟩ := (pipelineLaw_iff s).mp h
  have hunflushed := unflushed_of_flight hflight
  obtain ⟨hcovered, hwriting, hdisjoint⟩ := covered_of_flight h hflight
  have hq := hqueue hcovered hwriting
  generalize ht : ({ s.removeEntry tag with
      contexts := v, writer := { s.writer with flight := none }, release := { s.release with queue := queue } } : State) = t
  have hrest : t.writer.commitQueue = s.writer.commitQueue ∧ t.unflushed = s.writer.openBatch.map BatchRecord.context ∧
      t.release.queue = s.release.queue ++ f.contexts ∧ t.release.releasing = s.release.releasing ∧ t.ring = s.ring ∧
      t.mode = s.mode := by
    rw [← ht]; exact ⟨rfl, rfl, hq, rfl, rfl, rfl⟩
  obtain ⟨hcommits, htUnflushed, htQueue, hreleasing, hring, hmode⟩ := hrest
  have hctxAt (d : ContextIx) : t.ctx d = if d ∈ f.contexts then durableOf (s.ctx d) else s.ctx d := by
    rw [← ht]; exact hctx d
  have hsealed : t.sealed = s.sealed := sealed_flushAcknowledged hflight hreleasing htQueue htUnflushed
  refine (pipelineLaw_iff t).mpr ⟨by rw [hsealed, hcommits]; exact hnodup, fun d => ?_, ?_, ?_⟩
  · have hd := hplaced d
    rw [hcommits, htUnflushed, htQueue, hreleasing, hctxAt]
    by_cases hmem : d ∈ f.contexts
    · rw [if_pos hmem]
      have hnot : d ∉ s.writer.openBatch.map BatchRecord.context := fun hm => hdisjoint d hmem d hm rfl
      have hw := hwriting d hmem
      cases hx : s.ctx d with
      | writing =>
        rw [hx] at hd
        exact ⟨iff_of_false (fun hm => nomatch hd.queued.mp hm) nofun, iff_of_false hnot nofun,
          iff_of_true (List.mem_append_right _ hmem) rfl, iff_of_false (fun hm => nomatch hd.releasing.mp hm) nofun⟩
      | _ => rw [hx] at hw; cases hw
    · rw [if_neg hmem]
      refine hd.congr .rfl ?_ ?_ .rfl
      · rw [hunflushed, List.mem_append, or_iff_right hmem]
      · rw [List.mem_append, or_iff_left hmem]
  · rw [hsealed, hring, List.map_congr_left fun d _ => ?_]
    · exact hseq
    · rw [hctxAt]
      split
      · cases s.ctx d <;> rfl
      · rfl
  · rw [hmode, hring, hsealed]
    exact hsequence

/-- A journal fault empties the commit queue and the batch (R38, R97). -/
theorem pipelineLaw_journalFault {s : State} (h : s.PipelineLaw) {v : Vector Context 16} (hctx : FailsOpen s s.sealing v) :
    State.PipelineLaw { s with
      mode := .faulted, contexts := v, hold := heldAfter s s.sealing, ring := stoppedRing s.ring
      writer := ⟨false, [], [], none⟩ } := by
  obtain ⟨hnodup, hplaced, hseq, -⟩ := (pipelineLaw_iff s).mp h
  have hsealing (c : ContextIx) (hc : (s.ctx c).isQueued = true ∨ (s.ctx c).isWriting = true) : c ∈ s.sealing := by
    obtain hq | hw := hc
    · exact List.mem_append_right _ ((hplaced c).queued.mpr hq)
    · exact List.mem_append_left _ ((hplaced c).unflushed.mpr hw)
  have hsame (c : ContextIx) (hc : ¬((s.ctx c).isQueued = true ∨ (s.ctx c).isWriting = true)) : SamePlace (s.ctx c) v[c] := by
    obtain ⟨r, now, orphan, hv⟩ := (hctx c).2 fun hgone => hc hgone.2
    rw [hv]
    exact samePlace_failedBy _ _ _ _
  generalize ht : ({ s with
      mode := .faulted, contexts := v, hold := heldAfter s s.sealing, ring := stoppedRing s.ring
      writer := ⟨false, [], [], none⟩ } : State) = t
  have hrest : t.writer.commitQueue = [] ∧ t.unflushed = [] ∧ t.release = s.release ∧
      t.ring.retiredSequence = s.ring.retiredSequence ∧ t.mode = .faulted ∧ ∀ c, t.ctx c = v[c] := by
    rw [← ht]; exact ⟨rfl, rfl, rfl, rfl, rfl, fun _ => rfl⟩
  obtain ⟨hcommits, hunflushed, hrelease, hretired, hmode, hctxAt⟩ := hrest
  have hsealed : s.sealed = t.sealed ++ s.unflushed := by
    unfold State.sealed
    rw [hunflushed, hrelease, List.append_nil]
  refine (pipelineLaw_iff t).mpr ⟨?_, fun c => ?_, ?_, fun hm => by rw [hmode] at hm; obtain hm | hm | hm := hm <;> cases hm⟩
  · rw [hcommits, List.append_nil]
    rw [hsealed] at hnodup
    exact hnodup.sublist ((List.sublist_append_left _ _).trans (List.sublist_append_left _ _))
  · rw [hcommits, hunflushed, hrelease, hctxAt]
    have hc := hplaced c
    by_cases hgone : (s.ctx c).isQueued = true ∨ (s.ctx c).isWriting = true
    · rw [(hctx c).1 ⟨hsealing c hgone, hgone⟩]
      cases hx : s.ctx c with
      | queued =>
        rw [hx] at hc
        exact ⟨iff_of_false nofun nofun, iff_of_false nofun nofun, iff_of_false (fun hm => nomatch hc.released.mp hm) nofun,
          iff_of_false (fun hm => nomatch hc.releasing.mp hm) nofun⟩
      | writing =>
        rw [hx] at hc
        exact ⟨iff_of_false nofun nofun, iff_of_false nofun nofun, iff_of_false (fun hm => nomatch hc.released.mp hm) nofun,
          iff_of_false (fun hm => nomatch hc.releasing.mp hm) nofun⟩
      | _ => rw [hx] at hgone; obtain hgone | hgone := hgone <;> cases hgone
    · obtain ⟨eq, ew, ed, er, -⟩ := hsame c hgone
      obtain ⟨hnq, hnw⟩ := not_or.mp hgone
      exact ⟨iff_of_false nofun (by rw [eq]; exact hnq), iff_of_false nofun (by rw [ew]; exact hnw), ed ▸ hc.released,
        er ▸ hc.releasing⟩
  · have hkept : (t.sealed.map fun c => (t.ctx c).sequence?) = t.sealed.map fun c => (s.ctx c).sequence? := by
      refine List.map_congr_left fun c hc => ?_
      rw [hctxAt]
      refine (hsame c fun hgone => ?_).sequence
      have hplace : c ∈ s.release.releasing.map Progress.context ∨ c ∈ s.release.queue := by
        have hm := (mem_sealed t c).mp hc
        rw [hrelease, hunflushed] at hm
        exact hm.imp_right fun hm => hm.elim id nofun
      have hcp := hplaced c
      cases hx : s.ctx c with
      | durable => rw [hx] at hgone; obtain hgone | hgone := hgone <;> cases hgone
      | releasing => rw [hx] at hgone; obtain hgone | hgone := hgone <;> cases hgone
      | _ =>
        rw [hx] at hcp
        obtain hm | hm := hplace
        · exact nomatch hcp.releasing.mp hm
        · exact nomatch hcp.released.mp hm
    rw [hretired, hkept]
    rw [hsealed, List.map_append, consecutiveFrom_append, Bool.and_eq_true] at hseq
    exact hseq.1

/-- With every context FREE and every queue empty the law holds, whatever the ring manager counts from (R134, R148). -/
theorem pipelineLaw_empty {t : State} (hfree : ∀ c, t.ctx c = .free) (hcommits : t.writer.commitQueue = [])
    (hunflushed : t.unflushed = []) (hqueue : t.release.queue = []) (hset : t.release.releasing = [])
    (hnext : t.ring.nextSequence = t.ring.retiredSequence) : t.PipelineLaw := by
  have hsealed : t.sealed = [] := by unfold State.sealed; rw [hset, hqueue, hunflushed]; rfl
  refine (pipelineLaw_iff t).mpr ⟨by rw [hsealed, hcommits]; exact .nil, fun c => ?_, by rw [hsealed]; rfl, fun _ => ?_⟩
  · rw [hfree c, hcommits, hunflushed, hqueue, hset]
    exact ⟨iff_of_false nofun nofun, iff_of_false nofun nofun, iff_of_false nofun nofun, iff_of_false nofun nofun⟩
  · rw [hsealed, hnext]
    exact (BitVec.add_zero _).symm

/-! ### Every move -/

theorem pipelineLaw_move {s t : State} (h : s.PipelineLaw) (hmove : Move s t) : t.PipelineLaw := by
  cases hmove with
  | coldReset => exact StepAndReset.resetStateIsLawful.pipelineLaw
  | opened c o last timer hfree => exact pipelineLaw_set h c (.inl hfree) (.inr (.inl rfl))
  | refreshed c x hopen hx => exact pipelineLaw_set h c (.inr (.inl hopen)) (.inr (.inl hx))
  | failed c x hopen hx => exact pipelineLaw_set h c (.inr (.inl hopen)) (.inr (.inr hx))
  | dropped c i w hopen => exact pipelineLaw_set h c (.inr (.inl hopen)) (.inl rfl)
  | closed c i w hfailed => exact pipelineLaw_set h c (.inr (.inr hfailed)) (.inl rfl)
  | committed c x i w hopen hx => exact pipelineLaw_committed h c x _ hopen hx
  | taken c rest o f m p g hqueue hctx hgrant hactive hmode => exact pipelineLaw_taken h o f m p g hqueue hmode
  | flushPresented hbatch hwritten hflight =>
    exact pipelineLaw_of_same h rfl (unflushed_flushPresented hflight rfl) rfl rfl (fun _ => .rfl) rfl fun hm => ⟨hm, rfl⟩
  | flushGranted contexts hflight =>
    exact pipelineLaw_of_same h rfl (unflushed_flushGranted hflight rfl) rfl rfl (fun _ => .rfl) rfl fun hm => ⟨hm, rfl⟩
  | writeGranted done more b q hbatch =>
    exact pipelineLaw_of_same h rfl (unflushed_writeGranted hbatch rfl) rfl rfl (fun _ => .rfl) rfl fun hm => ⟨hm, rfl⟩
  | writeAcknowledged tag e c =>
    exact pipelineLaw_of_same h rfl (unflushed_countRecordWrite (s.removeEntry tag) c) rfl rfl (fun _ => .rfl) rfl fun hm => ⟨hm, rfl⟩
  | progressed l w hl => exact pipelineLaw_of_same h rfl rfl rfl hl (fun _ => .rfl) rfl fun hm => ⟨hm, rfl⟩
  | flushAcknowledged tag e f v queue hentry href hflight hctx hqueue =>
    exact pipelineLaw_flushAcknowledged h tag hflight hctx hqueue
  | journalFault v hctx => exact pipelineLaw_journalFault h hctx
  | releaseFault v hctx =>
    exact pipelineLaw_of_same h rfl rfl rfl rfl (samePlace_failsOpen_nil hctx) rfl
      fun hm => by obtain hm | hm | hm := hm <;> cases hm
  | recoveryFault =>
    exact pipelineLaw_of_same h rfl rfl rfl rfl (fun _ => .rfl) rfl fun hm => by obtain hm | hm | hm := hm <;> cases hm
  | drainEntered v hctx hmode =>
    exact pipelineLaw_of_same h rfl rfl rfl rfl (samePlace_failsOpen_nil hctx) rfl fun _ => ⟨.inl hmode, rfl⟩
  | drainEnded hdone =>
    exact pipelineLaw_of_same h rfl rfl rfl rfl (fun _ => .rfl) rfl
      fun _ => ⟨.inr (.inl ((State.drainDone_iff s).mp hdone).1), rfl⟩
  | drainLeft hmode => exact pipelineLaw_of_same h rfl rfl rfl rfl (fun _ => .rfl) rfl fun _ => ⟨.inr hmode, rfl⟩
  | started =>
    exact pipelineLaw_of_same h rfl rfl rfl rfl (fun _ => .rfl) rfl fun hm => by obtain hm | hm | hm := hm <;> cases hm
  | warmReset v hctx =>
    refine pipelineLaw_of_same h rfl (unflushed_warmReset rfl) rfl rfl (fun c => ?_) rfl
      fun hm => by obtain hm | hm | hm := hm <;> cases hm
    have hc : SamePlace (s.ctx c) v[c] := hctx c ▸ samePlace_atWarmReset _
    exact hc
  | cleared =>
    refine pipelineLaw_empty (fun c => ?_) rfl rfl rfl rfl rfl
    have hfree : (Vector.replicate 16 Context.free)[c] = .free := by simp
    exact hfree
  | releaseTaken c rest o f m pl hqueue hctx => exact pipelineLaw_releaseTaken h hqueue hctx
  | retired p rest o f m pl hset hctx => exact pipelineLaw_retired h hset hctx
  | _ => exact h

/-- The end of a recovery: every context is FREE, and the sequences start at the end of the scan (R120, R148, R158). -/
theorem pipelineLaw_finish {s t : State} (hopen : s.OpenInMode) (hfinish : Finish s t) : t.PipelineLaw := by
  cases hfinish with
  | finished tag e k hentry href hphase =>
    refine pipelineLaw_empty (fun c => ?_) rfl rfl rfl rfl rfl
    have hfree := hopen.2 (.inr (by rw [hphase]; rfl)) c
    show s.ctx c = .free
    cases hc : s.ctx c with
    | free => rfl
    | _ => rw [hc] at hfree; cases hfree

/-- Settles O57: every move keeps the pipeline, and the end of a recovery finds it empty. -/
theorem commitPipelineLawIsKept : Obligations.CommitPipelineLawIsKept := by
  unfold Obligations.CommitPipelineLawIsKept
  intro s t _ hopen h hstep
  have hmoves {u v : State} (hm : Moves u v) (hu : u.PipelineLaw) : v.PipelineLaw :=
    Moves.keep (fun _ _ => pipelineLaw_move) hm hu
  obtain ⟨rest, hm | ⟨u, hfinished, hm⟩⟩ := comes_step hstep
  · exact hmoves hm h
  · exact hmoves hm (pipelineLaw_finish (s := { s with pending := rest }) hopen hfinished)

end Sys2Proof.Proofs.Pipeline
end

section
/-! PROOF. The writer's counts of its outstanding requests, kept by every move. -/

namespace Sys2Proof.Proofs.WriterCounts
open Sys2Proof Sys2Proof.Machine Sys2Proof.Proofs.Steps Sys2Proof.Proofs.JournalWriter Sys2Proof.Proofs.HoldBuffer
open Sys2Proof.Proofs.Faults Sys2Proof.Proofs.Bounds Sys2Proof.Proofs.Modes Sys2Proof.Proofs.Owed

/-! ### The contexts the writer has in hand (R36, R81) -/

/-- A context that a journal fault frees. -/
def Sealing (x : Context) : Prop := x.isQueued = true ∨ x.isWriting = true

/-- The contexts that the writer has in hand are listed once, and each is QUEUED or WRITING: what moves keep of the pipeline's law
by itself. -/
def WriterListed (s : State) : Prop :=
  (s.unflushed ++ s.writer.commitQueue).Nodup ∧ ∀ c ∈ s.unflushed ++ s.writer.commitQueue, Sealing (s.ctx c)

theorem WriterListed.of_pipelineLaw {s : State} (h : s.PipelineLaw) : WriterListed s := by
  obtain ⟨hnodup, hplaced, -⟩ := h
  refine ⟨hnodup.sublist ((List.sublist_append_right _ _).append_right _), fun c hc => ?_⟩
  obtain ⟨hqueued, hwriting, -⟩ := hplaced c
  exact (List.mem_append.mp hc).elim (fun hm => .inr (hwriting.mp hm)) fun hm => .inl (hqueued.mp hm)

/-- The list is kept where contexts only leave it and those that stay are not freed. -/
theorem writerListed_of_sublist {s t : State} (h : WriterListed s)
    (hlist : (t.unflushed ++ t.writer.commitQueue).Sublist (s.unflushed ++ s.writer.commitQueue))
    (hctx : ∀ c ∈ t.unflushed ++ t.writer.commitQueue, Sealing (s.ctx c) → Sealing (t.ctx c)) : WriterListed t :=
  ⟨h.1.sublist hlist, fun c hc => hctx c hc (h.2 c (hlist.subset hc))⟩

/-- The list is kept where it stays and no context in it is freed. -/
theorem writerListed_of_same {s t : State} (h : WriterListed s) (hunflushed : t.unflushed = s.unflushed)
    (hcommits : t.writer.commitQueue = s.writer.commitQueue) (hctx : ∀ c, Sealing (s.ctx c) → Sealing (t.ctx c)) :
    WriterListed t :=
  writerListed_of_sublist h (by rw [hunflushed, hcommits]) fun c _ => hctx c

theorem writerListed_set {s : State} (h : WriterListed s) (c : ContextIx) (x : Context) (hc : ¬Sealing (s.ctx c)) :
    WriterListed { s with contexts := s.contexts.set c x } := by
  refine writerListed_of_same h rfl rfl fun d hd => ?_
  have hat : State.ctx { s with contexts := s.contexts.set c x } d = if c = d then x else s.ctx d := ctx_set s c x d
  rw [hat, if_neg (by rintro rfl; exact hc hd)]
  exact hd

theorem not_sealing_of_open {x : Context} (h : x.isOpen = true) : ¬Sealing x := by
  cases x with
  | opened => rintro (hx | hx) <;> cases hx
  | _ => cases h

theorem not_sealing_of_failed {x : Context} (h : x.isFailed = true) : ¬Sealing x := by
  cases x with
  | failed => rintro (hx | hx) <;> cases hx
  | _ => cases h

theorem not_sealing_of_free {x : Context} (h : x.isFree = true) : ¬Sealing x := by
  cases x with
  | free => rintro (hx | hx) <;> cases hx
  | _ => cases h

theorem sealing_failsOpen_nil {s : State} {v : Vector Context 16} (h : FailsOpen s [] v) (c : ContextIx)
    (hc : Sealing (s.ctx c)) : Sealing v[c] := by
  obtain ⟨eq, ew, -⟩ := Pipeline.samePlace_failsOpen_nil h c
  exact hc.imp (eq ▸ ·) (ew ▸ ·)

theorem writerListed_committed {s : State} (h : WriterListed s) (c : ContextIx) (x : Context) (bindings : List Binding)
    (hopen : (s.ctx c).isOpen = true) (hx : x.isQueued = true) :
    WriterListed { s with
      contexts := s.contexts.set c x
      bindings := bindings
      writer := { s.writer with commitQueue := s.writer.commitQueue ++ [c] } } := by
  obtain ⟨hnodup, hsealing⟩ := h
  have hnot : c ∉ s.unflushed ++ s.writer.commitQueue := fun hm => not_sealing_of_open hopen (hsealing c hm)
  refine ⟨?_, fun d hd => ?_⟩
  · show (s.unflushed ++ (s.writer.commitQueue ++ [c])).Nodup
    rw [← List.append_assoc, List.nodup_append]
    refine ⟨hnodup, List.nodup_singleton c, fun a ha b hb hab => hnot ?_⟩
    rw [hab, List.mem_singleton.mp hb] at ha
    exact ha
  · have hd' : d ∈ s.unflushed ++ (s.writer.commitQueue ++ [c]) := hd
    show Sealing (s.contexts.set c x)[d]
    rw [ctx_set]
    split
    · exact .inl hx
    next hcd =>
      rw [← List.append_assoc, Pipeline.mem_concat_of_ne hcd] at hd'
      exact hsealing d hd'

theorem writerListed_move {s t : State} (h : WriterListed s) (hmove : Move s t) : WriterListed t := by
  cases hmove with
  | coldReset => exact .of_pipelineLaw StepAndReset.resetStateIsLawful.pipelineLaw
  | opened c o last timer hfree => exact writerListed_set h c _ (not_sealing_of_free hfree)
  | refreshed c x hopen => exact writerListed_set h c x (not_sealing_of_open hopen)
  | failed c x hopen => exact writerListed_set h c x (not_sealing_of_open hopen)
  | dropped c i w hopen => exact writerListed_set h c _ (not_sealing_of_open hopen)
  | closed c i w hfailed => exact writerListed_set h c _ (not_sealing_of_failed hfailed)
  | committed c x i w hopen hx => exact writerListed_committed h c x _ hopen hx
  | taken c rest o f m p g hqueue =>
    have hlist : (s.takeGranted c o f m p g).unflushed ++ (s.takeGranted c o f m p g).writer.commitQueue =
        s.unflushed ++ s.writer.commitQueue := by
      unfold State.unflushed State.takeGranted
      simp [hqueue]
    refine writerListed_of_sublist h (by rw [hlist]) fun d _ hd => ?_
    show Sealing (s.contexts.set c (.writing o f m ⟨s.ring.nextSequence, g.offset⟩ p))[d]
    rw [ctx_set]
    split
    · exact .inr rfl
    · exact hd
  | flushPresented hbatch hwritten hflight =>
    exact writerListed_of_same h (Pipeline.unflushed_flushPresented hflight rfl) rfl fun _ hc => hc
  | flushGranted contexts hflight => exact writerListed_of_same h (Pipeline.unflushed_flushGranted hflight rfl) rfl fun _ hc => hc
  | writeGranted done more b q hbatch =>
    exact writerListed_of_same h (Pipeline.unflushed_writeGranted hbatch rfl) rfl fun _ hc => hc
  | writeAcknowledged tag e c =>
    exact writerListed_of_same h (Pipeline.unflushed_countRecordWrite (s.removeEntry tag) c) rfl fun _ hc => hc
  | flushAcknowledged tag e f v queue hentry href hflight hctx =>
    have hunflushed := Pipeline.unflushed_of_flight hflight
    have hlist := h.1
    rw [hunflushed, List.append_assoc, List.nodup_append] at hlist
    obtain ⟨-, -, hdisjoint⟩ := hlist
    refine writerListed_of_sublist h ?_ fun c hc hsealing => ?_
    · rw [hunflushed, List.append_assoc]
      exact List.sublist_append_right _ _
    · show Sealing v[c]
      rw [hctx c, if_neg fun hm => hdisjoint c hm c hc rfl]
      exact hsealing
  | journalFault => exact ⟨.nil, nofun⟩
  | releaseFault v hctx => exact writerListed_of_same h rfl rfl (sealing_failsOpen_nil hctx)
  | drainEntered v hctx => exact writerListed_of_same h rfl rfl (sealing_failsOpen_nil hctx)
  | warmReset v hctx =>
    refine writerListed_of_same h (Pipeline.unflushed_warmReset rfl) rfl fun c hc => ?_
    obtain ⟨eq, ew, -⟩ := Pipeline.samePlace_atWarmReset (s.ctx c)
    show Sealing v[c]
    rw [hctx c]
    exact hc.imp (eq ▸ ·) (ew ▸ ·)
  | cleared => exact ⟨.nil, nofun⟩
  | releaseTaken c rest o f m pl hqueue hctx =>
    exact writerListed_set h c _ (by rw [hctx]; rintro (hx | hx) <;> cases hx)
  | retired p rest o f m pl hset hctx =>
    exact writerListed_set h p.context .free (by rw [hctx]; rintro (hx | hx) <;> cases hx)
  | _ => exact h

theorem writerListed_finish {s t : State} (h : Finish s t) : WriterListed t := by
  cases h
  exact ⟨.nil, nofun⟩

/-! ### The unanswered writes of a record (R92) -/

/-- The unanswered writes that a batch counts for a context's record. -/
def unansweredOf (l : List BatchRecord) (c : ContextIx) : Nat :=
  ((l.filter fun b => b.context = c).map BatchRecord.unanswered).sum

theorem unansweredOf_append (l₁ l₂ : List BatchRecord) (c : ContextIx) :
    unansweredOf (l₁ ++ l₂) c = unansweredOf l₁ c + unansweredOf l₂ c := by
  unfold unansweredOf
  rw [List.filter_append, List.map_append, List.sum_append]

theorem unansweredOf_cons (b : BatchRecord) (l : List BatchRecord) (c : ContextIx) :
    unansweredOf (b :: l) c = (if b.context = c then b.unanswered else 0) + unansweredOf l c := by
  unfold unansweredOf
  by_cases h : b.context = c
  · rw [List.filter_cons_of_pos (by simpa using h), if_pos h, List.map_cons, List.sum_cons]
  · rw [List.filter_cons_of_neg (by simpa using h), if_neg h, Nat.zero_add]

theorem unansweredOf_eq_zero {l : List BatchRecord} {c : ContextIx} (h : ∀ b ∈ l, b.context = c → b.unanswered = 0) :
    unansweredOf l c = 0 := by
  induction l with
  | nil => rfl
  | cons b l ih =>
    rw [unansweredOf_cons, ih fun x hx => h x (List.mem_cons_of_mem _ hx)]
    split
    next hb => rw [h b (List.mem_cons_self ..) hb]
    next => rfl

/-- An acknowledged write lowers the count of its own record alone (R92). -/
theorem unansweredOf_counted (c d : ContextIx) : ∀ {l : List BatchRecord}, (l.map BatchRecord.context).Nodup →
    unansweredOf (l.map fun b => if b.context = c then { b with unanswered := b.unanswered - 1 } else b) d =
      unansweredOf l d - if d = c then 1 else 0
  | [], _ => by simp [unansweredOf]
  | b :: l, h => by
    obtain ⟨hb, hl⟩ := List.nodup_cons.mp h
    have ih := unansweredOf_counted c d hl
    rw [List.map_cons, unansweredOf_cons, unansweredOf_cons, ih]
    by_cases hbc : b.context = c
    · rw [if_pos hbc]
      show (if b.context = d then b.unanswered - 1 else 0) + _ = _
      by_cases hdc : d = c
      · subst hdc
        have hnone : unansweredOf l d = 0 := unansweredOf_eq_zero fun x hx hxd =>
          absurd (List.mem_map_of_mem (f := BatchRecord.context) hx) (by rw [hxd, ← hbc]; exact hb)
        rw [if_pos rfl, if_pos hbc, if_pos hbc, hnone]
        omega
      · have hbd : b.context ≠ d := fun hbd => hdc (hbd.symm.trans hbc)
        rw [if_neg hdc, if_neg hbd, if_neg hbd]
        rfl
    · rw [if_neg hbc]
      by_cases hdc : d = c
      · subst hdc
        rw [if_neg hbc, Nat.zero_add, Nat.zero_add]
      · rw [if_neg hdc]
        rfl

/-! ### The counts (R92, R93, R98, R100) -/

/-- The counts of a state whose writer is ACTIVE. -/
structure Counted (s : State) : Prop where
  writes : ∀ c, s.outstandingFor (.recordWrite c) = unansweredOf s.writer.openBatch c
  flush : s.outstandingFor .recordFlush = if s.writer.flight.any (fun f => !f.presented) then 1 else 0

/-- Nothing of the writer is left. -/
structure Cleared (s : State) : Prop where
  batch : s.writer.openBatch = []
  flight : s.writer.flight = none
  outstanding : ∀ e ∈ s.downstream.outstanding, e.ref.port ≠ .writer

theorem writesOwed_iff (s : State) : s.WritesOwed ↔
    (s.writer.active = true → Counted s) ∧ ((s.mode = .init ∨ s.recovery.phase.isCleared = true) → Cleared s) :=
  ⟨fun ⟨hcounts, hcleared⟩ => ⟨fun ha => ⟨(hcounts ha).1, (hcounts ha).2⟩, fun hm =>
      ⟨(hcleared hm).1, (hcleared hm).2.1, (hcleared hm).2.2⟩⟩,
    fun ⟨hcounts, hcleared⟩ => ⟨fun ha => ⟨(hcounts ha).writes, (hcounts ha).flush⟩, fun hm =>
      ⟨(hcleared hm).batch, (hcleared hm).flight, (hcleared hm).outstanding⟩⟩⟩

/-- The law is kept where the writer and the outstanding requests stay, and the mode and phase enter no new clearing. -/
theorem writesOwed_of_same {s t : State} (h : s.WritesOwed) (hwriter : t.writer = s.writer)
    (hdown : t.downstream = s.downstream)
    (hcleared : (t.mode = .init ∨ t.recovery.phase.isCleared = true) → s.mode = .init ∨ s.recovery.phase.isCleared = true) :
    t.WritesOwed := by
  unfold State.WritesOwed State.outstandingFor at *
  rw [hwriter, hdown]
  exact ⟨h.1, fun hm => h.2 (hcleared hm)⟩

theorem outstandingFor_eq_zero {s : State} {r : Ref} (hr : r.port = .writer)
    (h : ∀ e ∈ s.downstream.outstanding, e.ref.port ≠ .writer) : s.outstandingFor r = 0 := by
  unfold State.outstandingFor
  rw [List.length_eq_zero_iff, List.filter_eq_nil_iff]
  intro e he href
  exact h e he (by rw [of_decide_eq_true href]; exact hr)

/-- A request of another port issued. -/
theorem writesOwed_issue {s t : State} (h : s.WritesOwed) (p : Port) (q : DownRequest) {ref : Ref} (href : ref.port ≠ .writer)
    (hwriter : t.writer = s.writer) (hdown : t.downstream = (s.issue p q ref).downstream) (hmode : t.mode = s.mode)
    (hphase : t.recovery.phase = s.recovery.phase) : t.WritesOwed := by
  obtain ⟨hcounts, hcleared⟩ := (writesOwed_iff s).mp h
  have hout (r : Ref) (hr : r.port = .writer) : t.outstandingFor r = s.outstandingFor r := by
    have he : t.outstandingFor r = (s.issue p q ref).outstandingFor r := by unfold State.outstandingFor; rw [hdown]
    rw [he, outstandingFor_issue, if_neg (by rintro rfl; exact href hr), Nat.add_zero]
  refine (writesOwed_iff t).mpr ⟨fun ha => ?_, fun hm => ?_⟩
  · obtain ⟨hwrites, hflush⟩ := hcounts (hwriter ▸ ha)
    exact ⟨fun c => by rw [hout _ rfl, hwriter]; exact hwrites c, by rw [hout _ rfl, hwriter]; exact hflush⟩
  · obtain ⟨hbatch, hflight, hnone⟩ := hcleared (by rw [← hmode, ← hphase]; exact hm)
    refine ⟨hwriter ▸ hbatch, hwriter ▸ hflight, fun e he => ?_⟩
    rw [hdown] at he
    obtain hold | hnew := List.mem_append.mp he
    · exact hnone e hold
    · rw [List.mem_singleton.mp hnew]; exact href

/-- The entry of a request removed that the writer does not count. -/
theorem writesOwed_removeEntry {s t : State} (h : s.WritesOwed) (htags : s.TagsDistinct) {tag : XferTag} {e : OutEntry}
    (hentry : s.entry tag = some e) (hport : s.writer.active = true → e.ref.port ≠ .writer) (hwriter : t.writer = s.writer)
    (hdown : t.downstream = (s.removeEntry tag).downstream) (hmode : t.mode = s.mode)
    (hphase : t.recovery.phase = s.recovery.phase) : t.WritesOwed := by
  obtain ⟨hcounts, hcleared⟩ := (writesOwed_iff s).mp h
  refine (writesOwed_iff t).mpr ⟨fun ha => ?_, fun hm => ?_⟩
  · rw [hwriter] at ha
    obtain ⟨hwrites, hflush⟩ := hcounts ha
    have hout (r : Ref) (hr : r.port = .writer) : t.outstandingFor r = s.outstandingFor r := by
      have he : t.outstandingFor r = (s.removeEntry tag).outstandingFor r := by unfold State.outstandingFor; rw [hdown]
      have hremoved := outstandingFor_removeEntry htags hentry r
      rw [if_neg (by rintro rfl; exact hport ha hr), Nat.add_zero] at hremoved
      rw [he, hremoved]
    exact ⟨fun c => by rw [hout _ rfl, hwriter]; exact hwrites c, by rw [hout _ rfl, hwriter]; exact hflush⟩
  · obtain ⟨hbatch, hflight, hnone⟩ := hcleared (by rw [← hmode, ← hphase]; exact hm)
    refine ⟨hwriter ▸ hbatch, hwriter ▸ hflight, fun x hx => hnone x ?_⟩
    rw [hdown] at hx
    exact List.mem_of_mem_filter hx

/-- Where a batch or a record flush stands, the writer has not been cleared. -/
theorem not_cleared_of_batch {s : State} (h : s.WritesOwed) (hbatch : s.writer.openBatch ≠ []) {P : Prop} :
    (s.mode = .init ∨ s.recovery.phase.isCleared = true) → P :=
  fun hm => absurd (((writesOwed_iff s).mp h).2 hm).batch hbatch

theorem not_cleared_of_flight {s : State} (h : s.WritesOwed) {f : RecordFlush} (hflight : s.writer.flight = some f) {P : Prop} :
    (s.mode = .init ∨ s.recovery.phase.isCleared = true) → P := by
  intro hm
  have hnone := (((writesOwed_iff s).mp h).2 hm).flight
  rw [hnone] at hflight
  cases hflight

theorem not_cleared_of_working {s : State} (hengines : EnginesCore s) (hmode : s.mode ≠ .init ∧ s.mode ≠ .recovering)
    {P : Prop} : (s.mode = .init ∨ s.recovery.phase.isCleared = true) → P :=
  fun hm => hm.elim (fun hi => absurd hi hmode.1) fun hp => absurd (hengines.mode_of_cleared hp) hmode.2

/-! ### The moves of the writer -/

theorem writesOwed_taken {s : State} (hengines : EnginesCore s) (h : s.WritesOwed) (c : ContextIx) (o : Owner) (f : Bool)
    (m : CommitMarker) (p : Option Requester) (g : Grant) (hactive : s.writer.active = true) :
    (s.takeGranted c o f m p g).WritesOwed := by
  obtain ⟨hcounts, -⟩ := (writesOwed_iff s).mp h
  obtain ⟨hwrites, hflush⟩ := hcounts hactive
  refine (writesOwed_iff _).mpr ⟨fun _ => ⟨fun d => ?_, hflush⟩, not_cleared_of_working hengines (hengines.writer hactive)⟩
  show s.outstandingFor (.recordWrite d) = unansweredOf (s.writer.openBatch ++ [_]) d
  rw [hwrites, unansweredOf_append, unansweredOf_cons]
  show _ = _ + ((if c = d then 0 else 0) + 0)
  rw [ite_self]
  rfl

theorem writesOwed_flushPresented {s : State} (h : s.WritesOwed) (hbatch : s.writer.openBatch ≠ [])
    (hwritten : ∀ b ∈ s.writer.openBatch, b.unanswered = 0) (hflight : s.writer.flight = none) :
    State.WritesOwed { s with writer := { s.writer with
      openBatch := [], flight := some ⟨s.writer.openBatch.map BatchRecord.context, true⟩ } } := by
  obtain ⟨hcounts, -⟩ := (writesOwed_iff s).mp h
  refine (writesOwed_iff _).mpr ⟨fun ha => ?_, not_cleared_of_batch h hbatch⟩
  obtain ⟨hwrites, hflush⟩ := hcounts ha
  rw [hflight] at hflush
  exact ⟨fun d => (hwrites d).trans (unansweredOf_eq_zero fun b hb _ => hwritten b hb), hflush⟩

theorem writesOwed_flushGranted {s : State} (h : s.WritesOwed) {contexts : List ContextIx}
    (hflight : s.writer.flight = some ⟨contexts, true⟩) :
    State.WritesOwed { s.issue .writer .flush .recordFlush with
      writer := { s.writer with flight := some ⟨contexts, false⟩ } } := by
  obtain ⟨hcounts, -⟩ := (writesOwed_iff s).mp h
  refine (writesOwed_iff _).mpr ⟨fun ha => ?_, not_cleared_of_flight h hflight⟩
  obtain ⟨hwrites, hflush⟩ := hcounts ha
  rw [hflight] at hflush
  refine ⟨fun d => ?_, ?_⟩
  · show (s.issue .writer .flush .recordFlush).outstandingFor (.recordWrite d) = _
    rw [outstandingFor_issue, if_neg nofun]
    exact hwrites d
  · show (s.issue .writer .flush .recordFlush).outstandingFor .recordFlush = 1
    rw [outstandingFor_issue, if_pos rfl, hflush]
    rfl

theorem writesOwed_writeGranted {s : State} (h : s.WritesOwed) {done more : List BatchRecord} {b : BatchRecord}
    (q : DownRequest) (hbatch : s.writer.openBatch = done ++ b :: more) :
    State.WritesOwed { s.issue .writer q (.recordWrite b.context) with writer := { s.writer with
      openBatch := done ++ { b with toIssue := b.toIssue.tail, unanswered := b.unanswered + 1 } :: more } } := by
  obtain ⟨hcounts, -⟩ := (writesOwed_iff s).mp h
  refine (writesOwed_iff _).mpr ⟨fun ha => ?_, not_cleared_of_batch h (by rw [hbatch]; simp)⟩
  obtain ⟨hwrites, hflush⟩ := hcounts ha
  refine ⟨fun d => ?_, ?_⟩
  · show (s.issue .writer q (.recordWrite b.context)).outstandingFor (.recordWrite d) = unansweredOf (done ++ _ :: more) d
    rw [outstandingFor_issue, hwrites, hbatch, unansweredOf_append, unansweredOf_append, unansweredOf_cons, unansweredOf_cons]
    by_cases hbd : b.context = d
    · rw [if_pos (congrArg _ hbd), if_pos hbd, if_pos hbd]
      show _ = unansweredOf done d + (b.unanswered + 1 + unansweredOf more d)
      omega
    · have hne : Ref.recordWrite b.context ≠ .recordWrite d := by rw [Ne, Ref.recordWrite.injEq]; exact hbd
      rw [if_neg hne, if_neg hbd, if_neg hbd]
      rfl
  · show (s.issue .writer q (.recordWrite b.context)).outstandingFor .recordFlush = _
    rw [outstandingFor_issue, if_neg nofun]
    exact hflush

theorem writesOwed_writeAcknowledged {s : State} (hlisted : WriterListed s) (htags : s.TagsDistinct) (h : s.WritesOwed)
    {tag : XferTag} {e : OutEntry} {c : ContextIx} (hentry : s.entry tag = some e) (href : e.ref = .recordWrite c) :
    ((s.removeEntry tag).countRecordWrite c).WritesOwed := by
  obtain ⟨hcounts, hcleared⟩ := (writesOwed_iff s).mp h
  have hnodup : (s.writer.openBatch.map BatchRecord.context).Nodup :=
    hlisted.1.sublist ((List.sublist_append_right _ _).trans (List.sublist_append_left _ _))
  have hremoved := outstandingFor_removeEntry htags hentry
  rw [href] at hremoved
  refine (writesOwed_iff _).mpr ⟨fun ha => ?_, fun hm => ?_⟩
  · obtain ⟨hwrites, hflush⟩ := hcounts ha
    refine ⟨fun d => ?_, ?_⟩
    · show (s.removeEntry tag).outstandingFor (.recordWrite d) = unansweredOf (s.writer.openBatch.map _) d
      rw [unansweredOf_counted c d hnodup, ← hwrites, ← hremoved]
      by_cases hdc : d = c
      · rw [if_pos hdc, if_pos (congrArg _ hdc.symm)]; rfl
      · rw [if_neg hdc, if_neg (by rw [Ref.recordWrite.injEq]; exact fun hcd => hdc hcd.symm)]; rfl
    · have hsame := hremoved .recordFlush
      rw [if_neg nofun, Nat.add_zero] at hsame
      show (s.removeEntry tag).outstandingFor .recordFlush = _
      rw [hsame]
      exact hflush
  · exact absurd (by rw [href]; rfl) ((hcleared hm).outstanding e (entry_mem hentry).1)

theorem writesOwed_flushAcknowledged {s : State} (htags : s.TagsDistinct) (h : s.WritesOwed) {tag : XferTag} {e : OutEntry}
    (v : Vector Context 16) (queue : List ContextIx) (hentry : s.entry tag = some e) (href : e.ref = .recordFlush) :
    State.WritesOwed { s.removeEntry tag with
      contexts := v, writer := { s.writer with flight := none }, release := { s.release with queue := queue } } := by
  obtain ⟨hcounts, hcleared⟩ := (writesOwed_iff s).mp h
  have hremoved := outstandingFor_removeEntry htags hentry
  rw [href] at hremoved
  refine (writesOwed_iff _).mpr ⟨fun ha => ?_, fun hm => ?_⟩
  · obtain ⟨hwrites, hflush⟩ := hcounts ha
    refine ⟨fun d => ?_, ?_⟩
    · have hsame := hremoved (.recordWrite d)
      rw [if_neg nofun, Nat.add_zero] at hsame
      show (s.removeEntry tag).outstandingFor (.recordWrite d) = _
      rw [hsame]
      exact hwrites d
    · have hless := hremoved .recordFlush
      have hone : s.outstandingFor .recordFlush ≤ 1 := by rw [hflush]; split <;> decide
      rw [if_pos rfl] at hless
      show (s.removeEntry tag).outstandingFor .recordFlush = 0
      omega
  · exact absurd (by rw [href]; rfl) ((hcleared hm).outstanding e (entry_mem hentry).1)

theorem writesOwed_move {s t : State} (hengines : EnginesCore s) (hlisted : WriterListed s) (htags : s.TagsDistinct)
    (hrefs : s.RefsOfOwners) (h : s.WritesOwed) (hmove : Move s t) : t.WritesOwed := by
  cases hmove with
  | coldReset => exact StepAndReset.resetStateIsLawful.writesOwed
  | taken c rest o f m p g hqueue hctx hgrant hactive => exact writesOwed_taken hengines h c o f m p g hactive
  | flushPresented hbatch hwritten hflight => exact writesOwed_flushPresented h hbatch hwritten hflight
  | ingressGranted x rest hhand =>
    have hport : x.ref.port = .ingress := hrefs.1 x (by rw [hhand]; exact List.mem_cons_self ..)
    exact writesOwed_issue h .ingress x.request (ref := x.ref) (by rw [hport]; nofun) rfl rfl rfl rfl
  | flushGranted contexts hflight => exact writesOwed_flushGranted h hflight
  | writeGranted done more b q hbatch => exact writesOwed_writeGranted h q hbatch
  | issued p q ref hroom href =>
    refine writesOwed_issue h p q (ref := ref) ?_ rfl rfl rfl rfl
    obtain ⟨-, hring, hrecovery⟩ := hrefs
    obtain hq | hq | hq := href
    · rw [hring _ hq]; nofun
    · rw [hrecovery _ hq]; nofun
    · rw [hq]; nofun
  | removed tag e hentry hanswer htracking hwriter =>
    refine writesOwed_removeEntry h htags hentry (fun hactive hport => ?_) rfl rfl rfl rfl
    obtain hstopped | ⟨href, hnone⟩ := hwriter hport
    · rw [hstopped] at hactive; cases hactive
    · have hpos := outstandingFor_pos hentry
      rw [href, (((writesOwed_iff s).mp h).1 hactive).flush, hnone] at hpos
      exact absurd hpos (Nat.lt_irrefl 0)
  | counted tag e p failed hentry href =>
    exact writesOwed_removeEntry h htags hentry (fun _ => by rw [href]; nofun) rfl rfl rfl rfl
  | answered tag e p hentry href =>
    exact writesOwed_removeEntry h htags hentry (fun _ => by rw [href]; nofun) rfl rfl rfl rfl
  | readEnded tag e k hentry href =>
    exact writesOwed_removeEntry h htags hentry (fun _ => by rw [href]; nofun) rfl rfl rfl rfl
  | writeAcknowledged tag e c hentry href => exact writesOwed_writeAcknowledged hlisted htags h hentry href
  | flushAcknowledged tag e f v queue hentry href => exact writesOwed_flushAcknowledged htags h v queue hentry href
  | journalFault v hctx hwhy =>
    exact ⟨nofun, fun hm => hm.elim nofun fun hp => not_cleared_of_working hengines (hengines.working hwhy) (.inr hp)⟩
  | releaseFault v hctx hwhy => exact writesOwed_of_same h rfl rfl fun hm => hm.elim nofun .inr
  | recoveryFault => exact writesOwed_of_same h rfl rfl fun hm => hm.elim nofun nofun
  | drainEntered => exact writesOwed_of_same h rfl rfl fun hm => hm.elim nofun .inr
  | drainEnded => exact writesOwed_of_same h rfl rfl fun hm => hm.elim nofun .inr
  | drainLeft => exact writesOwed_of_same h rfl rfl fun hm => hm.elim nofun .inr
  | started format l hmode => exact writesOwed_of_same h rfl rfl fun _ => .inl hmode
  | warmReset => exact ⟨nofun, fun hm => hm.elim nofun nofun⟩
  | cleared l hquiesced =>
    obtain ⟨-, hnone, -⟩ := (RecoveryPath.quiesced_iff s).mp hquiesced
    have houtstanding : ∀ e ∈ s.downstream.outstanding, e.ref.port ≠ .writer := by rw [hnone]; nofun
    exact ⟨fun _ => ⟨fun c => outstandingFor_eq_zero (s := s) rfl houtstanding, outstandingFor_eq_zero (s := s) rfl houtstanding⟩,
      fun _ => ⟨rfl, rfl, houtstanding⟩⟩
  | recovered epoch generation copy phase l hbefore => exact writesOwed_of_same h rfl rfl fun _ => .inr hbefore
  | closingAsked raise k hbefore => exact writesOwed_of_same h rfl rfl fun _ => .inr hbefore
  | _ => exact h

/-- The end of a recovery: nothing of the writer was outstanding, and it starts anew (R100, R158). -/
theorem writesOwed_finish {s t : State} (h : s.WritesOwed) (hfinish : Finish s t) : t.WritesOwed := by
  cases hfinish with
  | finished tag e k hentry href hphase =>
    obtain ⟨-, hcleared⟩ := (writesOwed_iff s).mp h
    have hnone := (hcleared (.inr (by rw [hphase]; rfl))).outstanding
    have houtstanding : ∀ x ∈ (s.removeEntry tag).downstream.outstanding, x.ref.port ≠ .writer := fun x hx =>
      hnone x (List.mem_of_mem_filter hx)
    exact ⟨fun _ => ⟨fun c => outstandingFor_eq_zero (s := s.removeEntry tag) rfl houtstanding,
      outstandingFor_eq_zero (s := s.removeEntry tag) rfl houtstanding⟩, fun hm => hm.elim nofun nofun⟩

/-- The writer's counts with the laws that moves need to keep them. -/
structure WriterLaws (s : State) : Prop where
  engines : EnginesCore s
  listed : WriterListed s
  tags : s.TagsDistinct
  refs : s.RefsOfOwners
  writes : s.WritesOwed

theorem writerLaws_move (s t : State) (h : WriterLaws s) (hmove : Move s t) : WriterLaws t where
  engines := enginesCore_move h.engines hmove
  listed := writerListed_move h.listed hmove
  tags := tagsDistinct_move h.tags hmove
  refs := refsOfOwners_move h.refs hmove
  writes := writesOwed_move h.engines h.listed h.tags h.refs h.writes hmove

theorem writerLaws_finish (s t : State) (h : WriterLaws s) (hfinish : Finish s t) : WriterLaws t where
  engines := enginesCore_finish hfinish
  listed := writerListed_finish hfinish
  tags := tagsDistinct_finish h.tags hfinish
  refs := refsOfOwners_finish h.refs hfinish
  writes := writesOwed_finish h.writes hfinish

theorem writerLaws_pending (s : State) (rest : List Instr) (h : WriterLaws s) : WriterLaws { s with pending := rest } where
  engines := ⟨h.engines.recovering, h.engines.writer, h.engines.release, h.engines.closing, h.engines.update⟩
  listed := h.listed
  tags := h.tags
  refs := h.refs
  writes := h.writes

/-- Settles O60: every move keeps the counts, and the end of a recovery starts them anew. -/
theorem recordWritesStayCounted : Obligations.RecordWritesStayCounted := by
  unfold Obligations.RecordWritesStayCounted
  intro s t hengines hpipeline htags hrefs h hstep
  exact (keep_of_step writerLaws_pending writerLaws_move writerLaws_finish hstep
    ⟨.of_law hengines, .of_pipelineLaw hpipeline, htags, hrefs, h⟩).writes

end Sys2Proof.Proofs.WriterCounts
end

section
/-! PROOF. The ring's law, kept by every move of a machine whose commit pipeline is in order. -/

namespace Sys2Proof.Proofs.RingBounds
open Sys2Proof Sys2Proof.Machine Sys2Proof.Proofs.Steps Sys2Proof.Proofs.JournalWriter Sys2Proof.Proofs.HoldBuffer
open Sys2Proof.Proofs.Faults Sys2Proof.Proofs.Bounds Sys2Proof.Proofs.Pipeline

/-! ### The bytes of the sealed records (R85) -/

theorem sealedBytes_of_same {s t : State} (hsealed : t.sealed = s.sealed)
    (hcount : ∀ c ∈ s.sealed, t.entryCount c = s.entryCount c) : t.sealedBytes = s.sealedBytes := by
  unfold State.sealedBytes
  rw [hsealed]
  exact congrArg List.sum (List.map_congr_left fun c hc => congrArg recordLength (hcount c hc))

theorem sealedBytes_of_unflushed {s t : State} (hunflushed : t.unflushed = s.unflushed)
    (hset : t.release.releasing.map Progress.context = s.release.releasing.map Progress.context)
    (hqueue : t.release.queue = s.release.queue) (hold : t.hold = s.hold) : t.sealedBytes = s.sealedBytes := by
  refine sealedBytes_of_same (by unfold State.sealed; rw [hset, hqueue, hunflushed]) fun c _ => ?_
  unfold State.entryCount State.slotList
  rw [hold]

/-- The contexts of the sealed records are WRITING, DURABLE or RELEASING. -/
theorem committed_of_sealed {s : State} (h : s.PipelineLaw) {c : ContextIx} (hc : c ∈ s.sealed) :
    (s.ctx c).isWriting = true ∨ (s.ctx c).isDurable = true ∨ (s.ctx c).isReleasing = true := by
  obtain ⟨-, hplaced, -⟩ := (pipelineLaw_iff s).mp h
  obtain ⟨-, hw, hd, hr⟩ := hplaced c
  obtain hm | hm | hm := (mem_sealed s c).mp hc
  · exact .inr (.inr (hr.mp hm))
  · exact .inr (.inl (hd.mp hm))
  · exact .inl (hw.mp hm)

theorem not_sealed_of_open {s : State} (h : s.PipelineLaw) {c : ContextIx} (hopen : (s.ctx c).isOpen = true) :
    c ∉ s.sealed := by
  intro hc
  cases hx : s.ctx c with
  | opened =>
    have hcommitted := committed_of_sealed h hc
    rw [hx] at hcommitted
    obtain hm | hm | hm := hcommitted <;> cases hm
  | _ => rw [hx] at hopen; cases hopen

/-- The slots of a context stay where only others leave. -/
theorem entryCount_filter {l : List HeldSlot} {d : ContextIx} {p : HeldSlot → Bool} (hp : ∀ h ∈ l, h.owner = d → p h = true) :
    ((l.filter p).filter fun h => h.owner = d).length = (l.filter fun h => h.owner = d).length := by
  rw [List.filter_filter]
  refine congrArg List.length (List.filter_congr fun h hh => ?_)
  by_cases howner : h.owner = d
  · simp [howner, hp h hh howner]
  · simp [howner]

/-- The slots of contexts that neither are OPEN nor freed stay. -/
theorem entryCount_heldAfter {s t : State} {freed : List ContextIx} {d : ContextIx} (hold : t.hold = heldAfter s freed)
    (hopen : (s.ctx d).isOpen = false)
    (hfreed : ¬(d ∈ freed ∧ ((s.ctx d).isQueued = true ∨ (s.ctx d).isWriting = true))) : t.entryCount d = s.entryCount d := by
  unfold State.entryCount State.slotList
  rw [hold]
  refine entryCount_filter fun h _ howner => ?_
  subst howner
  rw [not_and_or, not_or] at hfreed
  simpa [hopen] using hfreed

theorem isOpen_false_of_sealed {s : State} (h : s.PipelineLaw) {c : ContextIx} (hc : c ∈ s.sealed) :
    (s.ctx c).isOpen = false := Bool.eq_false_iff.mpr fun hopen => not_sealed_of_open h hopen hc

/-! ### The law (R107) -/

/-- The law is kept where the bytes of the ring stay and the sealed records take no more of them. -/
theorem ringLaw_of_same {s t : State} (h : s.RingLaw) (hlive : t.ring.live = s.ring.live)
    (hun : t.ring.unanchored = s.ring.unanchored) (hpad : t.ring.pendingPad = s.ring.pendingPad)
    (hsnapshot : ∀ k ∈ t.ring.snapshot, k ∈ s.ring.snapshot ∨ k.unanchored ≤ s.ring.unanchored)
    (hsize : t.ringSize = s.ringSize) (hbytes : t.sealedBytes ≤ s.sealedBytes) (hmode : t.mode = .init → s.mode = .init) :
    t.RingLaw := by
  obtain ⟨hfits, hwithin, hsnap, hinit⟩ := h
  refine ⟨by rw [hlive, hsize]; exact hfits, ?_, fun k hk => ?_, fun hm => hlive.trans (hinit (hmode hm))⟩
  · rw [hlive, hun, hpad]
    omega
  · rw [hun]
    exact (hsnapshot k hk).elim (hsnap k) id

/-- The ring manager's bytes untouched. -/
theorem ringLaw_of_ring {s t : State} (h : s.RingLaw) (hring : t.ring = s.ring) (hsize : t.ringSize = s.ringSize)
    (hbytes : t.sealedBytes = s.sealedBytes) (hmode : t.mode = .init → s.mode = .init) : t.RingLaw :=
  ringLaw_of_same h (by rw [hring]) (by rw [hring]) (by rw [hring]) (fun k hk => .inl (hring ▸ hk)) hsize
    (Nat.le_of_eq hbytes) hmode

/-- A grant fits into the free bytes of the ring (R108). -/
theorem grant_fits {g : Machine.Ring} {size n : Nat} {x : Grant} (h : g.grant size n = some x) (hlive : g.live ≤ size) :
    g.live + (padBytesOf x.pad + n) ≤ size := by
  unfold Ring.grant at h
  split at h
  · split at h
    · cases h
      show g.live + (0 + n) ≤ size
      omega
    · cases h
  · split at h
    · cases h
      show g.live + (size - g.head + n) ≤ size
      omega
    · cases h

theorem ringLaw_taken {s : State} (h : s.RingLaw) {c : ContextIx} (o : Owner) (f : Bool)
    (m : CommitMarker) (p : Option Requester) {g : Grant}
    (hgrant : s.ring.grant s.ringSize (recordLength (s.entryCount c)) = some g) (hmode : s.mode.carriesCommits = true) :
    (s.takeGranted c o f m p g).RingLaw := by
  obtain ⟨hfits, hwithin, hsnap, -⟩ := h
  have hroom := grant_fits hgrant hfits
  obtain ⟨head, offset, un, pad, hpad, hun, hring⟩ := reserve_record s.ring s.ringSize (recordLength (s.entryCount c)) g
  have hbytes : (s.takeGranted c o f m p g).sealedBytes = s.sealedBytes + recordLength (s.entryCount c) := by
    unfold State.sealedBytes
    rw [sealed_takeGranted, List.map_append, List.sum_append, List.map_singleton, List.sum_singleton]
    rfl
  have hlive : (s.takeGranted c o f m p g).ring = s.ring.reserve s.ringSize (recordLength (s.entryCount c)) g := rfl
  rw [hring] at hlive
  refine ⟨?_, ?_, ?_, fun hm => ?_⟩
  · rw [hlive]; exact hroom
  · rw [hlive, hbytes]
    show un + padBytesOf pad + _ ≤ s.ring.live + (padBytesOf g.pad + recordLength (s.entryCount c))
    have hbefore : s.ring.unanchored + padBytesOf s.ring.pendingPad + s.sealedBytes ≤ s.ring.live := hwithin
    omega
  · rw [hlive]
    exact fun k hk => Nat.le_trans (hsnap k hk) hun
  · have hm' : s.mode = .init := hm
    rw [hm'] at hmode
    cases hmode

theorem ringLaw_retired {s : State} (hpipeline : s.PipelineLaw) (h : s.RingLaw) {p : Progress} {rest : List Progress}
    (pl : RecordPlace) (hset : s.release.releasing = p :: rest) :
    State.RingLaw { s with
      contexts := s.contexts.set p.context .free
      hold := s.hold.filter fun h => h.owner ≠ p.context
      release := { s.release with releasing := rest }
      ring := s.ring.retire s.ringSize s.settings.anchorInterval pl.offset (recordLength (s.entryCount p.context))
        pl.sequence } := by
  obtain ⟨hfits, hwithin, hsnap, hinit⟩ := h
  obtain ⟨offset, un, count, again, pad, hpad, hun, -, hring⟩ := retire_record s.ring s.ringSize s.settings.anchorInterval
    pl.offset (recordLength (s.entryCount p.context)) pl.sequence
  rw [hring]
  generalize ht : ({ s with
      contexts := s.contexts.set p.context .free
      hold := s.hold.filter fun h => h.owner ≠ p.context
      release := { s.release with releasing := rest }
      ring := { s.ring with
          retiredOffset := offset, retiredSequence := pl.sequence + 1, unanchored := un, retirements := count, again := again
          pendingPad := pad } } : State) = t
  have hsealed : s.sealed = p.context :: t.sealed := by
    unfold State.sealed
    rw [hset, ← ht]
    rfl
  have hnot : p.context ∉ t.sealed := by
    have hnodup := hpipeline.1
    rw [hsealed] at hnodup
    exact fun hm => (List.nodup_cons.mp (List.cons_append ▸ hnodup)).1 (List.mem_append_left _ hm)
  have hbytes : s.sealedBytes = recordLength (s.entryCount p.context) + t.sealedBytes := by
    unfold State.sealedBytes
    rw [hsealed, List.map_cons, List.sum_cons, List.map_congr_left fun d hd => congrArg recordLength
      (State.entryCount_of_filter (s := s) (t := t) (by rw [← ht]) (ne_of_not_mem hnot hd).symm)]
  have hrest : t.ring.live = s.ring.live ∧ t.ring.unanchored = un ∧ t.ring.pendingPad = pad ∧
      t.ring.snapshot = s.ring.snapshot ∧ t.ringSize = s.ringSize ∧ t.mode = s.mode := by
    rw [← ht]; exact ⟨rfl, rfl, rfl, rfl, rfl, rfl⟩
  obtain ⟨hlive, htUn, htPad, htSnapshot, hsize, hmode⟩ := hrest
  refine ⟨by rw [hlive, hsize]; exact hfits, ?_, fun k hk => ?_, fun hm => hlive.trans (hinit (hmode ▸ hm))⟩
  · rw [hlive, htUn, htPad]
    have hbefore : s.ring.unanchored + padBytesOf s.ring.pendingPad + s.sealedBytes ≤ s.ring.live := hwithin
    show un + padBytesOf pad + _ ≤ _
    omega
  · have hk' := hsnap k (htSnapshot ▸ hk)
    rw [htUn]
    omega

/-- An anchor update completes: the bytes of its snapshot become free (R115). -/
theorem ringLaw_updateDone {s : State} (h : s.RingLaw) {k : Snapshot} (hsnapshot : s.ring.snapshot = some k) :
    State.RingLaw { s with ring := s.ring.complete k } := by
  obtain ⟨hfits, hwithin, hsnap, hinit⟩ := h
  have hk : k.unanchored ≤ s.ring.unanchored := hsnap k (by rw [hsnapshot]; rfl)
  refine ⟨?_, ?_, nofun, fun hm => ?_⟩
  · show s.ring.live - k.unanchored ≤ s.ringSize
    omega
  · show s.ring.unanchored - k.unanchored + (s.ring.pendingPad.map Pad.length).getD 0 + s.sealedBytes ≤
      s.ring.live - k.unanchored
    omega
  · show s.ring.live - k.unanchored = 0
    rw [hinit hm, Nat.zero_sub]

/-- An OPEN context's slots are no sealed record's. -/
theorem sealedBytes_drop {s t : State} (hpipeline : s.PipelineLaw) {c : ContextIx} (hopen : (s.ctx c).isOpen = true)
    (hold : t.hold = s.hold.filter fun h => h.owner ≠ c) (hsealed : t.sealed = s.sealed) : t.sealedBytes = s.sealedBytes :=
  sealedBytes_of_same hsealed fun _ hd =>
    State.entryCount_of_filter hold (ne_of_not_mem (not_sealed_of_open hpipeline hopen) hd).symm

theorem sealedBytes_mergeSlot (s : State) (n : SlotNo) (bytes : LineBytes) :
    (s.mergeSlot n bytes).sealedBytes = s.sealedBytes := by
  refine sealedBytes_of_same rfl fun d _ => ?_
  show (List.filter _ (s.hold.map _)).length = (s.hold.filter _).length
  rw [List.filter_map, List.length_map]
  refine congrArg List.length (List.filter_congr fun h _ => ?_)
  by_cases hn : h.number = n <;> simp [hn]

theorem sealedBytes_allocateSlot {s : State} (hpipeline : s.PipelineLaw) {c : ContextIx} (hopen : (s.ctx c).isOpen = true)
    (n : SlotNo) (line : Addr) (bytes : LineBytes) : (s.allocateSlot n line bytes c).sealedBytes = s.sealedBytes := by
  refine sealedBytes_of_same rfl fun d hd => ?_
  have hne : c ≠ d := ne_of_not_mem (not_sealed_of_open hpipeline hopen) hd
  show (List.filter _ (s.hold ++ [_])).length = (s.hold.filter _).length
  rw [List.filter_append, List.filter_cons_of_neg (by simpa using hne), List.filter_nil, List.append_nil]

/-- The slots of the sealed records stay when OPEN contexts fail (R37, R39). -/
theorem sealedBytes_failsOpen {s t : State} (hpipeline : s.PipelineLaw) (hold : t.hold = heldAfter s [])
    (hsealed : t.sealed = s.sealed) : t.sealedBytes = s.sealedBytes :=
  sealedBytes_of_same hsealed fun _ hd =>
    entryCount_heldAfter hold (isOpen_false_of_sealed hpipeline hd) fun hgone => nomatch hgone.1

/-- What a journal fault leaves sealed are the DURABLE and RELEASING contexts, with their slots (R38). -/
theorem sealedBytes_journalFault {s t : State} (hpipeline : s.PipelineLaw) (hold : t.hold = heldAfter s s.sealing)
    (hrelease : t.release = s.release) (hunflushed : t.unflushed = []) : t.sealedBytes ≤ s.sealedBytes := by
  have hsealed : s.sealed = t.sealed ++ s.unflushed := by
    unfold State.sealed
    rw [hunflushed, hrelease, List.append_nil]
  obtain ⟨-, hplaced, -⟩ := (pipelineLaw_iff s).mp hpipeline
  have hkept : ∀ d ∈ t.sealed, t.entryCount d = s.entryCount d := fun d hd => by
    have hds : d ∈ s.sealed := by rw [hsealed]; exact List.mem_append_left _ hd
    refine entryCount_heldAfter hold (isOpen_false_of_sealed hpipeline hds) fun ⟨_, hgone⟩ => ?_
    have hplace : d ∈ s.release.releasing.map Progress.context ∨ d ∈ s.release.queue := by
      have hm := (mem_sealed t d).mp hd
      rw [hrelease, hunflushed] at hm
      exact hm.imp_right fun hm => hm.elim id nofun
    have hdp := hplaced d
    cases hx : s.ctx d with
    | queued =>
      rw [hx] at hdp
      obtain hm | hm := hplace
      · exact nomatch hdp.releasing.mp hm
      · exact nomatch hdp.released.mp hm
    | writing =>
      rw [hx] at hdp
      obtain hm | hm := hplace
      · exact nomatch hdp.releasing.mp hm
      · exact nomatch hdp.released.mp hm
    | _ => rw [hx] at hgone; obtain hgone | hgone := hgone <;> cases hgone
  unfold State.sealedBytes
  rw [hsealed, List.map_append, List.sum_append, List.map_congr_left fun d hd => congrArg recordLength (hkept d hd)]
  exact Nat.le_add_right _ _

/-! ### Every move -/

theorem ringLaw_move {s t : State} (hpipeline : s.PipelineLaw) (h : s.RingLaw) (hmove : Move s t) : t.RingLaw := by
  have hlaw := h
  obtain ⟨hfits, hwithin, hsnap, hinit⟩ := hlaw
  cases hmove with
  | coldReset => exact StepAndReset.resetStateIsLawful.ringLaw
  | settings g hrange hsize =>
    obtain hsame | hmode := hsize
    · refine ringLaw_of_ring h rfl ?_ rfl id
      show 2 ^ g.ringSizeLog2 = 2 ^ s.settings.ringSizeLog2
      rw [hsame]
    · exact ⟨by rw [show State.ring _ = s.ring from rfl, hinit hmode]; exact Nat.zero_le _, hwithin, hsnap, hinit⟩
  | failed c x hopen => exact ringLaw_of_ring h rfl rfl (sealedBytes_drop hpipeline hopen rfl rfl) id
  | dropped c i w hopen => exact ringLaw_of_ring h rfl rfl (sealedBytes_drop hpipeline hopen rfl rfl) id
  | merged n bytes => exact ringLaw_of_ring h rfl rfl (sealedBytes_mergeSlot s n bytes) id
  | allocated c n line bytes hopen => exact ringLaw_of_ring h rfl rfl (sealedBytes_allocateSlot hpipeline hopen n line bytes) id
  | taken c rest o f m p g hqueue hctx hgrant hactive hmode => exact ringLaw_taken h o f m p hgrant hmode
  | flushPresented hbatch hwritten hflight =>
    exact ringLaw_of_ring h rfl rfl (sealedBytes_of_unflushed (unflushed_flushPresented hflight rfl) rfl rfl rfl) id
  | flushGranted contexts hflight =>
    exact ringLaw_of_ring h rfl rfl (sealedBytes_of_unflushed (unflushed_flushGranted hflight rfl) rfl rfl rfl) id
  | writeGranted done more b q hbatch =>
    exact ringLaw_of_ring h rfl rfl (sealedBytes_of_unflushed (unflushed_writeGranted hbatch rfl) rfl rfl rfl) id
  | snapshotTaken => exact ⟨hfits, hwithin, fun k hk => by cases hk; exact Nat.le_refl _, hinit⟩
  | progressed l w hl => exact ringLaw_of_ring h rfl rfl (sealedBytes_of_unflushed rfl hl rfl rfl) id
  | writeAcknowledged tag e c =>
    exact ringLaw_of_ring h rfl rfl (sealedBytes_of_unflushed (unflushed_countRecordWrite (s.removeEntry tag) c) rfl rfl rfl) id
  | flushAcknowledged tag e f v queue hentry href hflight hctx hqueue =>
    obtain ⟨hcovered, hwriting, -⟩ := covered_of_flight hpipeline hflight
    exact ringLaw_of_ring h rfl rfl (sealedBytes_of_same
      (sealed_flushAcknowledged hflight rfl (hqueue hcovered hwriting) rfl) fun _ _ => rfl) id
  | journalFault v hctx hwhy =>
    exact ringLaw_of_same h rfl rfl rfl nofun rfl (sealedBytes_journalFault hpipeline rfl rfl rfl) nofun
  | releaseFault v hctx hwhy =>
    exact ringLaw_of_same h rfl rfl rfl nofun rfl (Nat.le_of_eq (sealedBytes_failsOpen hpipeline rfl rfl)) nofun
  | recoveryFault => exact ⟨hfits, hwithin, nofun, nofun⟩
  | drainEntered v hctx => exact ringLaw_of_ring h rfl rfl (sealedBytes_failsOpen hpipeline rfl rfl) nofun
  | drainEnded => exact ⟨hfits, hwithin, hsnap, nofun⟩
  | drainLeft => exact ⟨hfits, hwithin, hsnap, nofun⟩
  | started => exact ⟨hfits, hwithin, hsnap, nofun⟩
  | warmReset =>
    exact ringLaw_of_same h rfl rfl rfl nofun rfl
      (Nat.le_of_eq (sealedBytes_of_unflushed (unflushed_warmReset rfl) rfl rfl rfl)) nofun
  | cleared => exact ⟨Nat.zero_le _, Nat.le_refl 0, nofun, fun _ => rfl⟩
  | updateDone k hclosing hsnapshot => exact ringLaw_updateDone h hsnapshot
  | releaseTaken c rest o f m pl hqueue =>
    exact ringLaw_of_ring h rfl rfl (sealedBytes_of_same (sealed_releaseTaken hqueue List.map_append rfl rfl) fun _ _ => rfl) id
  | retired p rest o f m pl hset => exact ringLaw_retired hpipeline h pl hset
  | closingAsked => exact ⟨hfits, hwithin, fun k hk => by cases hk; exact Nat.zero_le _, hinit⟩
  | _ => exact h

/-- The end of a recovery leaves an empty ring (R120). -/
theorem ringLaw_finish {s t : State} (hfinish : Finish s t) : t.RingLaw := by
  cases hfinish
  exact ⟨Nat.zero_le _, Nat.le_refl 0, nofun, nofun⟩

/-- Settles O58: with the commit pipeline in order every move keeps the ring's law, and a recovery ends with an empty ring. -/
theorem ringNeverOverfills : Obligations.RingNeverOverfills := by
  unfold Obligations.RingNeverOverfills
  intro s t hlawful hstep
  have hmove (u v : State) (h : u.PipelineLaw ∧ u.RingLaw) (hm : Move u v) : v.PipelineLaw ∧ v.RingLaw :=
    ⟨pipelineLaw_move h.1 hm, ringLaw_move h.1 h.2 hm⟩
  obtain ⟨rest, hm | ⟨u, hfinished, hm⟩⟩ := comes_step hstep
  · exact (Moves.keep hmove hm ⟨hlawful.pipelineLaw, hlawful.ringLaw⟩).2
  · exact (Moves.keep hmove hm ⟨pipelineLaw_finish (s := { s with pending := rest }) hlawful.openInMode hfinished,
      ringLaw_finish hfinished⟩).2

end Sys2Proof.Proofs.RingBounds
end

section
/-! PROOF. The transitions of the mode table, each with the command that brings it about and its MODE_CHANGE. -/

namespace Sys2Proof.Proofs.Transitions
open Sys2Proof Sys2Proof.Machine Sys2Proof.Proofs.Steps Sys2Proof.Proofs.Faults Sys2Proof.Proofs.RecoveryEnd
open Sys2Proof.Proofs.Modes Sys2Proof.Proofs.Pipeline Sys2Proof.Proofs.WriterCounts Sys2Proof.Proofs.JournalWriter

/-! ### Faults (R138, R177) -/

/-- A machine that is not FAULTED faults only in RECOVERING, ONLINE and DRAINING: in DRAINED nothing is left to fail (R138). -/
theorem mode_of_faultCause {s : State} (hengines : s.EnginesInMode) (hdrained : s.DrainedIsEmpty) (hpipeline : s.PipelineLaw)
    (hwrites : s.WritesOwed) (hmode : s.mode ≠ .faulted) (h : FaultCause s) :
    s.mode = .recovering ∨ s.mode = .online ∨ s.mode = .draining := by
  have hcore := EnginesCore.of_law hengines
  have hworking (hwhere : s.mode ≠ .init ∧ s.mode ≠ .recovering) (hleft : s.mode ≠ .drained) :
      s.mode = .recovering ∨ s.mode = .online ∨ s.mode = .draining := by
    cases hm : s.mode with
    | init => exact absurd hm hwhere.1
    | recovering => exact absurd hm hwhere.2
    | online => exact .inr (.inl rfl)
    | draining => exact .inr (.inr rfl)
    | drained => exact absurd hm hleft
    | faulted => exact absurd hm hmode
  cases h with
  | writer hactive e hmem hport =>
    refine hworking (hcore.writer hactive) fun hm => ?_
    obtain ⟨-, hbatch, hflight, -⟩ := hdrained hm
    obtain ⟨hcounts, hflush⟩ := ((writesOwed_iff s).mp hwrites).1 hactive
    have hpos : 0 < s.outstandingFor e.ref := List.length_pos_of_mem (List.mem_filter.mpr ⟨hmem, by simp⟩)
    cases href : e.ref with
    | recordWrite c =>
      rw [href, hcounts, hbatch] at hpos
      exact absurd hpos (Nat.lt_irrefl 0)
    | recordFlush =>
      rw [href, hflush, hflight] at hpos
      exact absurd hpos (Nat.lt_irrefl 0)
    | _ => rw [href] at hport; cases hport
  | release hactive c hctx =>
    refine hworking (hcore.release hactive) fun hm => ?_
    obtain ⟨-, -, -, -, hset, -⟩ := hdrained hm
    obtain ⟨-, hplaced, -⟩ := (pipelineLaw_iff s).mp hpipeline
    have hmem := (hplaced c).releasing.mpr hctx
    rw [hset] at hmem
    cases hmem
  | update hbusy hclosing =>
    exact .inr ((UpdateInMode.of_law hengines hbusy).resolve_left (by rw [hclosing]; decide))
  | recovery h => exact .inl (hcore.mode_of_cleared (hcore.cleared_of_fault h))

/-! ### The drain (R181, R183, R184) -/

/-- A drain check leaves the state, or ends the drain. -/
theorem drainCheck_cases (s : State) : s.drainCheck = s ∨
    s.mode = .draining ∧ s.drainCheck.mode = .drained ∧ Told s s.drainCheck [(.drained, .draining)] := by
  by_cases hdone : s.drainDone = true
  · refine .inr ⟨((State.drainDone_iff s).mp hdone).1, ?_⟩
    rw [State.drainCheck_of_done hdone, pushAll_eq]
    exact ⟨rfl, .of_pushAll rfl rfl rfl⟩
  · exact .inl (State.drainCheck_of_not (by simpa using hdone))

/-- The entry to DRAINING, and where nothing is left the end of the drain in the same step (R181). -/
theorem enterDraining_cases (s : State) :
    s.enterDraining.mode = .draining ∧ Told s s.enterDraining [(.draining, s.mode)] ∨
      s.enterDraining.mode = .drained ∧ Told s s.enterDraining [(.draining, s.mode), (.drained, .draining)] := by
  obtain ⟨v, m, bs, -, hdone, hleft, henter⟩ := enterDraining_record s
  rw [henter]
  have hentry : (EventBody.modeChange .draining s.mode :: s.openFailures .power).filterMap EventBody.modeChange? =
      [(.draining, s.mode)] := by
    show (Mode.draining, s.mode) :: (s.openFailures .power).filterMap EventBody.modeChange? = _
    rw [openFailures_modeChanges]
  by_cases h : s.writer.commitQueue = [] ∧ s.writer.openBatch = [] ∧ s.writer.flight = none ∧ s.release.queue = [] ∧
      s.release.releasing = [] ∧ s.ring.unanchored = 0
  · obtain ⟨rfl, rfl⟩ := hdone h
    exact .inr ⟨rfl, .of_pushAll rfl rfl (by rw [List.filterMap_append, hentry]; rfl)⟩
  · obtain ⟨rfl, rfl⟩ := hleft h
    exact .inl ⟨rfl, .of_pushAll rfl rfl hentry⟩

theorem told_startUpdate (s : State) : Told s s.startUpdate [] := by
  rw [State.startUpdate_eq]
  exact .of_same rfl rfl

theorem setMode_mode (s : State) (m : Mode) : (s.setMode m).mode = m := by
  cases m <;> simp [State.setMode]

/-- PFWARN asserted starts the drain in ONLINE, and leaves every other mode (R180, R181). -/
theorem assertPfwarn_cases (s : State) : s.assertPfwarn.mode = s.mode ∨ s.mode = .online ∧
    (s.assertPfwarn.mode = .draining ∧ Told s s.assertPfwarn [(.draining, s.mode)] ∨
      s.assertPfwarn.mode = .drained ∧ Told s s.assertPfwarn [(.draining, s.mode), (.drained, .draining)]) := by
  unfold State.assertPfwarn
  by_cases hlevel : s.pfwarn = true
  · rw [if_pos hlevel]; exact .inl rfl
  · rw [if_neg hlevel]
    have hlatched : Told s { s with pfwarn := true } [] := .of_same rfl rfl
    simp only
    split
    · rename_i hmode
      exact .inr ⟨hmode, (enterDraining_cases { s with pfwarn := true }).imp (.imp_right hlatched.trans)
        (.imp_right hlatched.trans)⟩
    all_goals exact .inl rfl

/-- PFWARN deasserted ends the drain, and leaves every other mode (R184). -/
theorem deassertPfwarn_cases (s : State) : s.deassertPfwarn.mode = s.mode ∨ (s.mode = .draining ∨ s.mode = .drained) ∧
    s.deassertPfwarn.mode = .online ∧ Told s s.deassertPfwarn [(.online, s.mode)] := by
  have honline : (State.setMode { s with pfwarn := false } .online).startUpdate.mode = .online ∧
      Told s (State.setMode { s with pfwarn := false } .online).startUpdate [(.online, s.mode)] := by
    have hlatched : Told s { s with pfwarn := false } [] := .of_same rfl rfl
    refine ⟨(calm_startUpdate _).mode.trans (setMode_mode _ _), ?_⟩
    exact (hlatched.trans (told_setMode { s with pfwarn := false } .online)).trans (told_startUpdate _)
  unfold State.deassertPfwarn
  by_cases hlevel : s.pfwarn = true
  · rw [if_pos hlevel]
    simp only
    split
    · rename_i hmode
      exact .inr ⟨.inl hmode, honline⟩
    · rename_i hmode
      exact .inr ⟨.inr hmode, honline⟩
    all_goals exact .inl rfl
  · rw [if_neg hlevel]; exact .inl rfl

/-! ### The acknowledged anchor FLUSH (R115, R120, R158) -/

/-- A state in which the mode has changed on an acknowledged anchor FLUSH: the drain has ended, or a recovery. -/
inductive FlushEnds (s t : State) : Prop
  | drain (hmode : s.mode = .draining) (hafter : t.mode = .drained) (htold : Told s t [(.drained, .draining)])
  | online (hmode : s.mode = .recovering) (hlevel : s.pfwarn = false) (hafter : t.mode = .online)
      (htold : Told s t [(.online, .recovering)])
  | drained (hmode : s.mode = .recovering) (hlevel : s.pfwarn = true) (hafter : t.mode = .drained)
      (htold : Told s t [(.draining, .recovering), (.drained, .draining)])

theorem told_askForSpace (s : State) (renew : Bool) : Told s (s.askForSpace renew) [] := by
  have hstarted (u : State) : Told u u.startUpdate.checkFlush [] := (told_startUpdate u).trans (told_checkFlush _)
  unfold State.askForSpace
  cases s.writer.commitQueue with
  | nil => exact .refl s
  | cons c rest =>
    cases hctx : s.ctx c with
    | queued o f m p =>
      simp only [hctx]
      cases s.ring.grant s.ringSize (recordLength (s.entryCount c)) with
      | some g =>
        have htaken : Told s (s.takeGranted c o f m p g) [] := .of_same rfl rfl
        simp only
        split
        · exact htaken.trans (hstarted _)
        · exact htaken.trans (told_checkFlush _)
      | none =>
        simp only
        split
        · exact .refl s
        · have hrefused : Told s { s with ring := s.ring.refuseSpace } [] := .of_same rfl rfl
          exact hrefused.trans (hstarted _)
    | _ => simp only [hctx]; exact .refl s

theorem told_spaceFreed (s : State) : Told s s.spaceFreed [] := by
  unfold State.spaceFreed
  split
  · exact told_askForSpace s true
  · exact .refl s

theorem finishRecovery_ends {s : State} (hmode : s.mode = .recovering) (k : Close) :
    FlushEnds s (State.finishRecovery { s with ring := s.ring.resume k } k) := by
  have hrestart : Told s (engineRestart s k) [] :=
    .of_pushAll (bodies := [.recoveryDone k.endSequence k.replayed]) rfl rfl rfl
  have hleft : (engineRestart s k).mode = .recovering := hmode
  rw [finishRecovery_resumed]
  by_cases hlevel : s.pfwarn = true
  · rw [if_pos hlevel]
    have htold := enterDraining_cases (engineRestart s k)
    rw [hleft] at htold
    obtain ⟨v, m, bs, -, hdone, -, henter⟩ := enterDraining_record (engineRestart s k)
    obtain ⟨rfl, -⟩ := hdone ⟨rfl, rfl, rfl, rfl, rfl, rfl⟩
    have hafter : (engineRestart s k).enterDraining.mode = .drained := by rw [henter]
    obtain ⟨hdraining, -⟩ | ⟨-, htold⟩ := htold
    · rw [hafter] at hdraining; cases hdraining
    · exact .drained hmode hlevel hafter (hrestart.trans htold)
  · rw [if_neg hlevel]
    have htold := told_setMode (engineRestart s k) .online
    rw [hleft] at htold
    exact .online hmode (by simpa using hlevel) (setMode_mode _ _) (hrestart.trans htold)

theorem completeUpdate_cases {s : State} (hengines : EnginesCore s) :
    s.completeUpdate.mode = s.mode ∨ FlushEnds s s.completeUpdate := by
  unfold State.completeUpdate
  by_cases hclosing : s.ring.closing = true
  · rw [if_pos hclosing]
    split
    · rename_i k hphase
      exact .inr (finishRecovery_ends (hengines.recovering.mpr (by rw [hphase]; nofun)) k)
    · exact .inl rfl
  · rw [if_neg hclosing]
    split
    · rename_i k hsnapshot
      have hfreed := calm_spaceFreed { s with ring := s.ring.complete k }
      have htold : Told s (State.spaceFreed { s with ring := s.ring.complete k }) [] :=
        (Told.of_same (s := s) (t := { s with ring := s.ring.complete k }) rfl rfl).trans (told_spaceFreed _)
      have hmode : (State.spaceFreed { s with ring := s.ring.complete k }).mode = s.mode := hfreed.mode
      generalize State.spaceFreed { s with ring := s.ring.complete k } = u at htold hmode ⊢
      obtain hsame | ⟨hdraining, hafter, hend⟩ := drainCheck_cases u
      · rw [hsame, (calm_startUpdate u).mode]
        exact .inl hmode
      · exact .inr (.drain (hmode ▸ hdraining) ((calm_startUpdate _).mode.trans hafter)
          ((htold.trans hend).trans (told_startUpdate _)))
    · exact .inl rfl

/-- That the entry of the anchor FLUSH has left the port makes no difference. -/
theorem FlushEnds.of_removeEntry {s t : State} {tag : XferTag} (h : FlushEnds (s.removeEntry tag) t) : FlushEnds s t := by
  have hremoved : Told s (s.removeEntry tag) [] := .of_same rfl rfl
  cases h with
  | drain hmode hafter htold => exact .drain hmode hafter (hremoved.trans htold)
  | online hmode hlevel hafter htold => exact .online hmode hlevel hafter (hremoved.trans htold)
  | drained hmode hlevel hafter htold => exact .drained hmode hlevel hafter (hremoved.trans htold)

theorem anchorFlushAnswer_cases {s : State} (hengines : EnginesCore s) (tag : XferTag) (data : List Byte) :
    ((s.removeEntry tag).anchorFlushAnswer (.ack data)).mode = s.mode ∨
      FlushEnds s ((s.removeEntry tag).anchorFlushAnswer (.ack data)) := by
  have hremoved : EnginesCore (s.removeEntry tag) :=
    ⟨hengines.recovering, hengines.writer, hengines.release, hengines.closing, hengines.update⟩
  unfold State.anchorFlushAnswer
  split
  · exact (completeUpdate_cases hremoved).imp id FlushEnds.of_removeEntry
  · rename_i herror; cases herror
  · exact .inl rfl

/-! ### CONTROL writes (R140, R146, R190) -/

/-- The state with the overflow flag as a CONTROL write leaves it (R190). -/
def overflowWritten (s : State) (v : Word32) : State :=
  { s with events := { s.events with overflow := s.events.overflow && !v.getLsbD 3 } }

theorem told_beginWarmReset (s : State) : s.beginWarmReset.mode = .recovering ∧
    Told s s.beginWarmReset [(.recovering, s.mode)] := by
  obtain ⟨v, -, hreset⟩ := RecoveryPath.beginWarmReset_eq s
  rw [hreset]
  exact ⟨rfl, .of_pushAll (bodies := [.modeChange .recovering s.mode]) rfl rfl rfl⟩

theorem told_startRecovery (s : State) (format : Bool) : (s.startRecovery format).mode = .recovering ∧
    Told s (s.startRecovery format) [(.recovering, s.mode)] :=
  ⟨setMode_mode s .recovering, (told_setMode s .recovering).trans (l₂ := []) (.of_same rfl rfl)⟩

/-- A CONTROL write that changes the mode is a START in INIT, or a WARM_RESET in one of the four modes that take it (R195). -/
theorem controlWrite_cases {s : State} {v : Word32} (h : (s.controlWrite v).mode ≠ s.mode) :
    (s.controlWrite v).mode = .recovering ∧ Told (overflowWritten s v) (s.controlWrite v) [(.recovering, s.mode)] ∧
      (v.getLsbD 0 = true ∧ s.mode = .init ∨ v.getLsbD 2 = true ∧
        (s.mode = .online ∨ s.mode = .draining ∨ s.mode = .drained ∨ s.mode = .faulted)) := by
  have hok : s.controlStatus v = .ok := by
    cases hstatus : s.controlStatus v with
    | ok => rfl
    | busy => rw [Registers.controlWrite_of_refused hstatus nofun] at h; exact absurd rfl h
    | badAddr => rw [Registers.controlWrite_of_refused hstatus nofun] at h; exact absurd rfl h
  obtain ⟨hstart, hwarm⟩ := modes_of_controlStatus hok
  have hbits : Told (overflowWritten s v) ((s.controlIrq v).controlOverflow v) [] := by
    rw [Registers.controlOverflow_controlIrq]
    refine .of_same ?_ rfl
    unfold overflowWritten
    cases v.getLsbD 3 <;> simp
  have hmode : ((s.controlIrq v).controlOverflow v).mode = s.mode := by rw [Registers.controlOverflow_controlIrq]
  rw [Registers.controlWrite_of_ok hok] at h ⊢
  generalize (s.controlIrq v).controlOverflow v = u at h hbits hmode ⊢
  have hreply (w : State) : (w.writeReply .ok).mode = w.mode ∧ Told w (w.writeReply .ok) [] := ⟨rfl, .of_same rfl rfl⟩
  have hcommand : (u.controlCommand v).mode ≠ s.mode := h
  have hended {w : State} (hw : w.mode = .recovering ∧ Told u w [(.recovering, u.mode)]) :
      (w.writeReply .ok).mode = .recovering ∧ Told (overflowWritten s v) (w.writeReply .ok) [(.recovering, s.mode)] := by
    obtain ⟨hafter, htold⟩ := hw
    rw [hmode] at htold
    exact ⟨hafter, (hbits.trans htold).trans (hreply w).2⟩
  unfold State.controlCommand at hcommand ⊢
  by_cases h0 : v.getLsbD 0 = true
  · rw [if_pos h0] at hcommand ⊢
    obtain ⟨hafter, htold⟩ := hended (told_startRecovery u (v.getLsbD 1))
    exact ⟨hafter, htold, .inl ⟨h0, hstart h0⟩⟩
  · rw [if_neg h0] at hcommand ⊢
    by_cases h2 : v.getLsbD 2 = true
    · rw [if_pos h2] at hcommand ⊢
      obtain ⟨hafter, htold⟩ := hended (told_beginWarmReset u)
      obtain ⟨hinit, hrecovering⟩ := hwarm h2
      refine ⟨hafter, htold, .inr ⟨h2, ?_⟩⟩
      cases hm : s.mode with
      | init => exact absurd hm hinit
      | recovering => exact absurd hm hrecovering
      | online => exact .inl rfl
      | draining => exact .inr (.inl rfl)
      | drained => exact .inr (.inr (.inl rfl))
      | faulted => exact .inr (.inr (.inr rfl))
    · rw [if_neg h2] at hcommand
      exact absurd hmode hcommand

/-! ### Answers of the memory -/

/-- What an answer of the memory comes to; an anchor FLUSH is acknowledged by its own command alone. -/
theorem exec_answer {c : Instr} {tag : XferTag} {r : DownResponse} {s t : State} (hanswer : responseOf c = some (tag, r))
    (h : exec c s = .next t) : t = s ∨ ∃ e, s.entry tag = some e ∧ t = (s.removeEntry tag).deliver e r ∧
      (e.ref = .anchorFlush → c = .anchorFlushResponse tag r) := by
  have hrespond : ∃ mine : Ref → Bool, (mine .anchorFlush = true → c = .anchorFlushResponse tag r) ∧
      exec c s = s.respond mine tag r := by
    cases c <;> simp only [responseOf, Option.some.injEq, Prod.mk.injEq, reduceCtorEq] at hanswer <;>
      obtain ⟨rfl, rfl⟩ := hanswer <;>
      simp only [exec, execRecordWriteResponse, execRecordFlushResponse, execReleaseWriteResponse, execHomeFlushResponse,
        execAnchorWriteResponse, execAnchorFlushResponse, execReadResponse, execIngressResponse, execLateResponseDiscard,
        execAnchorReadResponse, execScanReadResponse, execRecordReadResponse, execReplayWriteResponse] <;>
      refine ⟨_, ?_, rfl⟩
    case anchorFlushResponse => exact fun _ => trivial
    all_goals exact fun hmine => Bool.noConfusion hmine
  obtain ⟨mine, hmine, hexec⟩ := hrespond
  rw [hexec] at h
  obtain hnone | ⟨e, hentry, he, ⟨-, hnext⟩ | ⟨-, hfault⟩⟩ := State.respond_cases s mine tag r
  · rw [hnone] at h; cases h; exact .inl rfl
  · rw [hnext] at h; cases h
    exact .inr ⟨e, hentry, rfl, fun href => hmine (href ▸ he)⟩
  · rw [hfault] at h; cases h

/-- An answer that changes the mode is a fault, or the acknowledgement of an anchor FLUSH that ends a drain or a recovery. -/
theorem answer_cases {c : Instr} {tag : XferTag} {r : DownResponse} {s t : State} (hengines : EnginesCore s)
    (hanswer : responseOf c = some (tag, r)) (h : exec c s = .next t) (hne : t.mode ≠ s.mode) :
    Fault s t ∨ (∃ data, c = .anchorFlushResponse tag (.ack data)) ∧ FlushEnds s t := by
  obtain rfl | ⟨e, hentry, rfl, hflush⟩ := exec_answer hanswer h
  · exact absurd rfl hne
  · by_cases hend : e.ref = .anchorFlush ∧ r ≠ .error
    · obtain ⟨href, hack⟩ := hend
      refine .inr ?_
      cases r with
      | error => exact absurd rfl hack
      | ack data =>
        refine ⟨⟨data, hflush href⟩, ?_⟩
        have hdeliver : (s.removeEntry tag).deliver e (.ack data) = (s.removeEntry tag).anchorFlushAnswer (.ack data) := by
          unfold State.deliver
          rw [href]
        rw [hdeliver] at hne ⊢
        exact (anchorFlushAnswer_cases hengines tag data).resolve_left hne
    · cases answered_deliver r hentry fun href => by simpa using fun hack => hend ⟨href, hack⟩ with
      | calm hcalm => exact absurd hcalm.mode hne
      | fault hfault => exact .inl hfault

/-! ### The mode table (R138) -/

/-- The rows of the mode table by which a command changes the mode, with what each tells. -/
inductive Row (c : Instr) (s t : State) : Prop
  | reset (hc : c = .coldReset) (hafter : t.mode = .init)
  | recovers (v : Word32) (hc : controlOf c = some v) (hafter : t.mode = .recovering)
      (htold : Told (overflowWritten s v) t [(.recovering, s.mode)])
      (hwhy : v.getLsbD 0 = true ∧ s.mode = .init ∨
        v.getLsbD 2 = true ∧ (s.mode = .online ∨ s.mode = .draining ∨ s.mode = .drained ∨ s.mode = .faulted))
  | faults (hc : (responseOf c).isSome = true ∨ ∃ tag, c = .responseTimerExpiry tag) (hmode : s.mode ≠ .faulted)
      (hfault : Fault s t)
  | flushed (tag : XferTag) (data : List Byte) (hc : c = .anchorFlushResponse tag (.ack data)) (h : FlushEnds s t)
  | drains (hc : c = .pfwarnAsserted) (hmode : s.mode = .online)
      (h : t.mode = .draining ∧ Told s t [(.draining, s.mode)] ∨
        t.mode = .drained ∧ Told s t [(.draining, s.mode), (.drained, .draining)])
  | resumes (hc : c = .pfwarnDeasserted) (hmode : s.mode = .draining ∨ s.mode = .drained) (hafter : t.mode = .online)
      (htold : Told s t [(.online, s.mode)])
  | drained (hc : c = .drainComplete) (hmode : s.mode = .draining) (hafter : t.mode = .drained)
      (htold : Told s t [(.drained, .draining)])

/-- Every change of the mode is by a row of the mode table. -/
theorem row_of_exec {c : Instr} {s t : State} (hengines : EnginesCore s) (hexec : exec c s = .next t) (hne : t.mode ≠ s.mode) :
    Row c s t := by
  have hfaults (hc : (responseOf c).isSome = true ∨ ∃ tag, c = .responseTimerExpiry tag) (h : Fault s t) : Row c s t :=
    .faults hc (fun hmode => hne (h.mode.trans hmode.symm)) h
  cases hanswer : responseOf c with
  | some x =>
    obtain hfault | ⟨⟨data, hc⟩, hends⟩ := answer_cases hengines hanswer hexec hne
    · exact hfaults (.inl (by rw [hanswer]; rfl)) hfault
    · exact .flushed _ data hc hends
  | none =>
    cases hcontrol : controlOf c with
    | some v =>
      obtain ⟨reply, hwrite⟩ := exec_control hcontrol s
      rw [hwrite] at hexec
      cases hexec
      obtain ⟨hafter, htold, hwhy⟩ := controlWrite_cases (s := s) (v := v) hne
      exact .recovers v hcontrol hafter (htold.trans (l₂ := []) (.of_same rfl rfl)) hwhy
    | none =>
      by_cases hquiet : LeavesMode c
      · exact absurd (calm_exec hquiet hexec).mode hne
      · cases c
        case coldReset => cases hexec; exact .reset rfl rfl
        case pfwarnAsserted =>
          cases hexec
          obtain ⟨hmode, h⟩ := (assertPfwarn_cases s).resolve_left hne
          exact .drains rfl hmode h
        case pfwarnDeasserted =>
          cases hexec
          obtain ⟨hmode, hafter, htold⟩ := (deassertPfwarn_cases s).resolve_left hne
          exact .resumes rfl hmode hafter htold
        case drainComplete =>
          cases hexec
          obtain ⟨hmode, hafter, htold⟩ := (drainCheck_cases s).resolve_left fun h => hne (congrArg State.mode h)
          exact .drained rfl hmode hafter htold
        case responseTimerExpiry tag =>
          cases hexec
          cases answered_responseTimeout s tag with
          | calm hcalm => exact absurd hcalm.mode hne
          | fault hfault => exact hfaults (.inr ⟨tag, rfl⟩) hfault
        all_goals exact absurd ⟨hanswer, hcontrol, nofun, nofun, nofun, nofun, nofun⟩ hquiet

/-- A command that writes no CONTROL register leaves the overflow flag to the events it pushes. -/
theorem announced_of_told {s t : State} {control : Option Word32} {l m : List (Mode × Mode)} (hnone : control = none)
    (h : Told s t l) (hl : l = m) : ∃ bodies : List EventBody,
      t.events = (State.pushAll { s with events := { s.events with
        overflow := s.events.overflow && !control.any fun v => v.getLsbD 3 } } bodies).events ∧
      bodies.filterMap EventBody.modeChange? = m := by
  subst hnone hl
  obtain ⟨⟨bodies, hevents, hchanges⟩, -⟩ := h
  refine ⟨bodies, ?_, hchanges⟩
  simp only [Option.any_none, Bool.not_false, Bool.and_true]
  exact hevents

/-- An answer of the memory and the expiry of a response timer write no CONTROL register. -/
theorem controlOf_of_answer {c : Instr} (h : (responseOf c).isSome = true ∨ ∃ tag, c = .responseTimerExpiry tag) :
    controlOf c = none := by
  obtain h | ⟨tag, rfl⟩ := h
  · cases c <;> first | rfl | cases h
  · rfl

/-- Settles O53: a command that can change the mode is one of a row of the mode table, and each row says what it tells. -/
theorem modeChangesOnlyByItsTransitions : Obligations.ModeChangesOnlyByItsTransitions := by
  unfold Obligations.ModeChangesOnlyByItsTransitions
  intro c s t hengines hdrained hpipeline hwrites hexec hne control endsRecovery
  cases row_of_exec (EnginesCore.of_law hengines) hexec hne with
  | reset hc hafter => rw [hafter]; exact ⟨.inl hc, hc⟩
  | recovers v hc hafter htold hwhy =>
    obtain ⟨⟨bodies, hevents, hchanges⟩, -⟩ := htold
    have hcontrol : control = some v := hc
    rw [hafter, hcontrol]
    exact ⟨.inr ⟨bodies, hevents, hchanges⟩, v, rfl, hwhy⟩
  | faults hc hmode hfault =>
    rw [hfault.mode]
    exact ⟨.inr (announced_of_told (controlOf_of_answer hc) (hfault.told hmode) rfl),
      mode_of_faultCause hengines hdrained hpipeline hwrites hmode hfault.cause, hc⟩
  | flushed tag data hc hends =>
    have hnone : control = none := by subst hc; rfl
    cases hends with
    | drain hmode hafter htold =>
      rw [hafter]
      exact ⟨.inr (announced_of_told hnone htold (by simp [hmode])), .inl ⟨.inr ⟨tag, data, hc⟩, hmode⟩⟩
    | online hmode hlevel hafter htold =>
      rw [hafter]
      exact ⟨.inr (announced_of_told hnone htold (by simp [hmode])), .inr ⟨⟨hmode, tag, data, hc⟩, hlevel⟩⟩
    | drained hmode hlevel hafter htold =>
      rw [hafter]
      exact ⟨.inr (announced_of_told hnone htold (by simp [hmode])), .inr (.inr ⟨⟨hmode, tag, data, hc⟩, hlevel⟩)⟩
  | drains hc hmode h =>
    have hnone : control = none := by subst hc; rfl
    obtain ⟨hafter, htold⟩ | ⟨hafter, htold⟩ := h
    · rw [hafter]
      exact ⟨.inr (announced_of_told hnone htold rfl), hc, hmode⟩
    · rw [hafter]
      exact ⟨.inr (announced_of_told hnone htold (by simp [hmode])), .inr (.inl ⟨hc, hmode⟩)⟩
  | resumes hc hmode hafter htold =>
    have hnone : control = none := by subst hc; rfl
    rw [hafter]
    exact ⟨.inr (announced_of_told hnone htold rfl), .inl ⟨hc, hmode⟩⟩
  | drained hc hmode hafter htold =>
    have hnone : control = none := by subst hc; rfl
    rw [hafter]
    exact ⟨.inr (announced_of_told hnone htold (by simp [hmode])), .inl ⟨.inl hc, hmode⟩⟩

end Sys2Proof.Proofs.Transitions
end

section
/-! PROOF. The window table: which entry an address selects, and the writes of its field registers. -/

namespace Sys2Proof.Proofs.WindowTable
open Sys2Proof Sys2Proof.Machine Sys2Proof.Proofs.Registers

/-! ### The selected entry (R3, R4) -/

/-- In an ascending list of all windows the first with a property is the lowest with it. -/
theorem find_windows_eq_some {p : WindowIx → Bool} {w : WindowIx} :
    Config.windows.find? p = some w ↔ p w = true ∧ ∀ v, v < w → p v = false := by
  have hsorted : Config.windows.Pairwise (· < ·) := by decide
  rw [List.find?_eq_some_iff_append]
  constructor
  · rintro ⟨hw, before, after, hsplit, hbefore⟩
    refine ⟨hw, fun v hv => ?_⟩
    have hmem : v ∈ before ++ w :: after := hsplit ▸ mem_windows v
    rw [hsplit, List.pairwise_append, List.pairwise_cons] at hsorted
    obtain ⟨-, ⟨hafter, -⟩, -⟩ := hsorted
    obtain hv' | hv' := List.mem_append.mp hmem
    · simpa using hbefore v hv'
    · obtain rfl | hv' := List.mem_cons.mp hv'
      · exact absurd hv (lt_irrefl _)
      · exact absurd hv (lt_asymm (hafter v hv'))
  · rintro ⟨hw, hlow⟩
    obtain ⟨before, after, hsplit⟩ := List.append_of_mem (mem_windows w)
    rw [hsplit, List.pairwise_append] at hsorted
    obtain ⟨-, -, hlt⟩ := hsorted
    exact ⟨hw, before, after, hsplit, fun v hv => by simp [hlow v (hlt v hv w (List.mem_cons_self ..))]⟩

theorem journalWindow_eq_some {s : State} {a : Addr} {w : WindowIx} : s.journalWindow a = some w ↔
    (s.window w).mode = .journal ∧ Config.windows.find? (fun v => (s.window v).matchesAddr (lineOf a)) = some w := by
  unfold State.journalWindow
  cases Config.windows.find? fun v => (s.window v).matchesAddr (lineOf a) with
  | none => simp
  | some v =>
    by_cases hmode : (s.window v).mode = .journal
    · simp only [if_pos hmode, Option.some.injEq]
      exact ⟨fun h => ⟨h ▸ hmode, h⟩, And.right⟩
    · simp only [if_neg hmode, Option.some.injEq, reduceCtorEq, false_iff]
      rintro ⟨hw, rfl⟩
      exact hmode hw

/-- A mask without bits below the line size does not see where in its line a byte stands (R2, R3). -/
theorem lineOf_and_mask (a : Addr) {mask : Addr} (h : mask.toNat % 64 = 0) : lineOf a &&& mask = a &&& mask := by
  have hmask : lineOf mask = mask := by
    refine BitVec.eq_of_toNat_eq ?_
    rw [Overlays.lineOf_toNat]
    omega
  calc lineOf a &&& mask = a &&& lineOf mask := by unfold lineOf; ac_rfl
    _ = a &&& mask := by rw [hmask]

/-- Settles O7: the first match is the lowest one, and the mask has no bit within a line. -/
theorem lowestMatchingEntryDecides : Obligations.LowestMatchingEntryDecides := by
  unfold Obligations.LowestMatchingEntryDecides
  refine ⟨fun e a => ?_, fun s a w => ?_, fun e a hmask => ?_⟩
  · simp only [Window.matchesAddr, Bool.and_eq_true, decide_eq_true_eq]
  · rw [journalWindow_eq_some, find_windows_eq_some]
  · unfold Window.matchesAddr
    rw [lineOf_and_mask a hmask]

/-! ### Field writes (R2, R6, R7, R196) -/

/-- The range check and the fields of WIN_POLICY (R196). -/
theorem write_policy (e : Window) (v : Word32) : e.write .policy v = e.written v .policy := by
  have hbit (i : Nat) : v.getLsbD i = decide (v.toNat / 2 ^ i % 2 = 1) := Nat.testBit_eq_decide_div_mod_eq
  have hfull : v.toNat % 4 < 4 := Nat.mod_lt _ (by decide)
  have hack : v.toNat / 4 % 4 < 4 := Nat.mod_lt _ (by decide)
  simp only [Window.write, Window.written, hbit]
  generalize v.toNat % 4 = full at hfull ⊢
  generalize v.toNat / 4 % 4 = ack at hack ⊢
  interval_cases full <;> interval_cases ack <;> rfl

/-- The model's write of a field register is the write the registers' rules give. -/
theorem write_eq_written (e : Window) (r : WindowRegister) (v : Word32) : e.write r v = e.written v r := by
  cases r with
  | mode =>
    have hlow : v.toNat % 4 < 4 := Nat.mod_lt _ (by decide)
    simp only [Window.write, Window.written]
    generalize v.toNat % 4 = m at hlow ⊢
    interval_cases m <;> rfl
  | baseLo => simp only [Window.write, Window.written, withLo_line]
  | maskLo => simp only [Window.write, Window.written, withLo_line]
  | markerPatternLo => simp only [Window.write, Window.written, withLo_word]
  | markerMaskLo => simp only [Window.write, Window.written, withLo_word]
  | baseHi => exact withHi_map e.base v fun a => { e with base := a }
  | maskHi => exact withHi_map e.mask v fun a => { e with mask := a }
  | markerPatternHi => exact withHi_map e.markerPattern v fun a => { e with markerPattern := a }
  | markerMaskHi => exact withHi_map e.markerMask v fun a => { e with markerMask := a }
  | signature => rfl
  | idleTimeout => rfl
  | lengthLimit =>
    simp only [Window.write, Window.written]
    by_cases hrange : 1 ≤ v.toNat ∧ v.toNat ≤ 256
    · rw [if_pos hrange, if_neg (by omega)]
    · rw [if_neg hrange, if_pos (by omega)]
  | policy => exact write_policy e v

/-- Settles O8: BUSY unless every context is FREE, and then the entry by its field's rule. -/
theorem windowFieldWriteAppliedWhenAllFree : Obligations.WindowFieldWriteAppliedWhenAllFree := by
  unfold Obligations.WindowFieldWriteAppliedWhenAllFree
  intro s r v
  have hexec : exec (.windowFieldWrite r v) s = .next (s.writeWindow r v) := rfl
  unfold State.writeWindow at hexec
  rw [write_eq_written] at hexec
  refine ⟨fun hbusy => ?_, fun hfree hnone => ?_, fun e hfree hsome => ?_⟩
  · have hnot : ¬s.allFree = true := by
      rw [State.allFree_iff]
      obtain ⟨c, hc⟩ := hbusy
      exact fun h => hc (h c)
    rw [hexec, if_neg hnot]; rfl
  · rw [hexec, if_pos (s.allFree_iff.mpr hfree), hnone]; rfl
  · rw [hexec, if_pos (s.allFree_iff.mpr hfree), hsome]; rfl

end Sys2Proof.Proofs.WindowTable
end

section
/-! PROOF. Marker words: the check of a write that touches one, and the OPEN and COMMIT commands. -/

namespace Sys2Proof.Proofs.Markers
open Sys2Proof Sys2Proof.Machine Sys2Proof.Proofs.Overlays

/-! ### The words a request touches (R11) -/

theorem wordOf_toNat (a : Addr) : (wordOf a).toNat = a.toNat / 8 * 8 := by
  unfold wordOf
  rw [BitVec.toNat_and]
  exact and_mask (n := 48) (k := 3) a.isLt (by decide)

theorem add_ofNat_toNat {a : Addr} {k : Nat} (h : a.toNat + k < 2 ^ 48) : (a + BitVec.ofNat 48 k).toNat = a.toNat + k := by
  rw [BitVec.toNat_add, ofNat_toNat (by omega), Nat.mod_eq_of_lt h]

/-- The words by their distance from the first, as far as the last byte's word. -/
theorem touchedWord_toNat {a : Addr} {n i : Nat} (hroom : a.toNat + n ≤ 2 ^ 48)
    (hi : i < (posOf a % 8 + n + 7) / 8) : (wordOf a + BitVec.ofNat 48 (8 * i)).toNat = a.toNat / 8 * 8 + 8 * i := by
  have hpos : posOf a % 8 = a.toNat % 8 := Nat.mod_mod_of_dvd a.toNat (by decide)
  rw [hpos] at hi
  rw [add_ofNat_toNat (by rw [wordOf_toNat]; omega), wordOf_toNat]

theorem mem_touchedWords {a x : Addr} {n : Nat} (hroom : a.toNat + n ≤ 2 ^ 48) (hn : 1 ≤ n) :
    x ∈ touchedWords a n ↔ ∃ k, k < n ∧ wordOf (a + BitVec.ofNat 48 k) = x := by
  have hpos : posOf a % 8 = a.toNat % 8 := Nat.mod_mod_of_dvd a.toNat (by decide)
  have hword {k i : Nat} (hk : k < n) (hi : i < (posOf a % 8 + n + 7) / 8) (heq : (a.toNat + k) / 8 = a.toNat / 8 + i) :
      wordOf a + BitVec.ofNat 48 (8 * i) = wordOf (a + BitVec.ofNat 48 k) := by
    refine BitVec.eq_of_toNat_eq ?_
    rw [touchedWord_toNat hroom hi, wordOf_toNat, add_ofNat_toNat (by omega), heq]
    omega
  unfold touchedWords
  simp only [List.mem_map, List.mem_range]
  constructor
  · rintro ⟨i, hi, rfl⟩
    exact ⟨8 * i - a.toNat % 8, by omega, (hword (by omega) hi (by omega)).symm⟩
  · rintro ⟨k, hk, rfl⟩
    exact ⟨(a.toNat + k) / 8 - a.toNat / 8, by omega, hword hk (by omega) (by omega)⟩

theorem touchedWords_ascend {a : Addr} {n : Nat} (hroom : a.toNat + n ≤ 2 ^ 48) :
    (touchedWords a n).Pairwise fun x y => x.toNat < y.toNat := by
  unfold touchedWords
  rw [List.pairwise_map]
  refine List.pairwise_lt_range.imp_of_mem fun {i j} hi hj hij => ?_
  rw [touchedWord_toNat hroom (List.mem_range.mp hi), touchedWord_toNat hroom (List.mem_range.mp hj)]
  omega

/-- The first marker word in the list of touched words is the lowest one touched (R14). -/
theorem touchedMarker_eq_some {s : State} {r : UpRequest} {w : WindowIx} {a : Addr}
    (hroom : r.addr.toNat + r.length ≤ 2 ^ 48) (htouch : ∃ k, k < r.length ∧ wordOf (r.addr + BitVec.ofNat 48 k) = a)
    (hmarker : s.markerWindow a = some w)
    (hlow : ∀ k, k < r.length → (s.markerWindow (wordOf (r.addr + BitVec.ofNat 48 k))).isSome = true →
      a.toNat ≤ (wordOf (r.addr + BitVec.ofNat 48 k)).toNat) : s.touchedMarker r = some (w, a) := by
  have hn : 1 ≤ r.length := by
    obtain ⟨k, hk, -⟩ := htouch
    omega
  obtain ⟨before, after, hsplit⟩ := List.append_of_mem ((mem_touchedWords hroom hn).mpr htouch)
  have hascend := touchedWords_ascend hroom
  rw [hsplit, List.pairwise_append] at hascend
  obtain ⟨-, -, hlt⟩ := hascend
  have hbefore : ∀ x ∈ before, s.markerWindow x = none := by
    intro x hx
    have hxa : x.toNat < a.toNat := hlt x hx a (List.mem_cons_self ..)
    obtain ⟨k, hk, rfl⟩ := (mem_touchedWords hroom hn).mp (hsplit ▸ List.mem_append_left _ hx)
    exact Option.not_isSome_iff_eq_none.mp fun hsome => absurd (hlow k hk hsome) (Nat.not_le.mpr hxa)
  unfold State.touchedMarker
  rw [hsplit, List.findSome?_append, List.findSome?_eq_none_iff.mpr fun x hx => by rw [hbefore x hx]; rfl]
  simp [hmarker]

/-! ### The fields of a marker value (R12, R198) -/

theorem markerCommand_eq_none (v : Word64) :
    markerCommand v = none ↔ ¬(v.toNat / 2 ^ 56 = 1 ∨ v.toNat / 2 ^ 56 = 2 ∨ v.toNat / 2 ^ 56 = 3) := by
  unfold markerCommand
  rw [BitVec.toNat_ushiftRight, Nat.shiftRight_eq_div_pow]
  split <;> simp_all

theorem markerSignature_eq_iff (v : Word64) (x : BitVec 16) :
    markerSignature v = x ↔ v.toNat / 2 ^ 40 % 2 ^ 16 = x.toNat := by
  unfold markerSignature
  rw [← BitVec.toNat_inj, BitVec.toNat_setWidth, BitVec.toNat_ushiftRight, Nat.shiftRight_eq_div_pow]

theorem markerZero_eq_zero_iff (v : Word64) : markerZero v = 0 ↔ v.toNat / 2 ^ 32 % 2 ^ 8 = 0 := by
  unfold markerZero
  rw [← BitVec.toNat_inj, BitVec.toNat_setWidth, BitVec.toNat_ushiftRight, Nat.shiftRight_eq_div_pow]
  rfl

theorem exactValue_eq_none {r : UpRequest} {bs : List (Option Byte)} (hkind : r.kind = .write bs)
    (h : ¬(bs.length = 8 ∧ r.addr.toNat % 8 = 0 ∧ ∀ b ∈ bs, b.isSome = true)) : exactValue r = none := by
  rw [← List.all_eq_true] at h
  simp only [exactValue, hkind, if_neg h]

/-! ### A MALFORMED request (R13, R14) -/

/-- The first check that a write to a marker word fails (R13). -/
theorem markerCheck_of_malformed {s : State} {r : UpRequest} {bs : List (Option Byte)} {w : WindowIx} {a : Addr}
    {d : MalformedDetail} (hkind : r.kind = .write bs) (htouched : s.touchedMarker r = some (w, a))
    (hd : (d = .shape ∧ exactValue r = none) ∨ ∃ v, exactValue r = some v ∧
      ((d = .unknownCode ∧ markerCommand v = none) ∨ ∃ cmd, markerCommand v = some cmd ∧
        ((d = .signature ∧ markerSignature v ≠ (s.window w).signature) ∨
          d = .nonzero ∧ markerSignature v = (s.window w).signature ∧ markerZero v ≠ 0))) :
    s.markerCheck r = .malformed w a d := by
  simp only [State.markerCheck, hkind, htouched]
  obtain ⟨rfl, hvalue⟩ | ⟨v, hvalue, ⟨rfl, hcode⟩ | ⟨cmd, hcode, ⟨rfl, hsig⟩ | ⟨rfl, hsig, hzero⟩⟩⟩ := hd
  · simp only [hvalue]
  · simp only [hvalue, hcode]
  · simp only [hvalue, hcode, if_pos hsig]
  · simp only [hvalue, hcode, if_neg (not_not_intro hsig), if_pos hzero]

theorem refuseMalformed_eq (s : State) (r : UpRequest) (w : WindowIx) (a : Addr) (d : MalformedDetail) :
    s.refuseMalformed r w a d =
      (s.endRequest (requesterOf r) (.refused .malformed)).push (.markerMalformed r.initiator w d a) :=
  State.push_leaveHead _ _

/-- Settles O9: the first failing check is MALFORMED before any mode is looked at, with the lowest marker word touched. -/
theorem malformedRequestRefusedWhole : Obligations.MalformedRequestRefusedWhole := by
  unfold Obligations.MalformedRequestRefusedWhole
  intro s r bs w a hhead hkind hroom htouch hmarker hlow d hd
  have hlen : r.length = bs.length := by simp [UpRequest.length, hkind]
  rw [← hlen] at hroom htouch hlow
  have htouched := touchedMarker_eq_some hroom htouch hmarker hlow
  have hcheck : s.markerCheck r = .malformed w a d := by
    refine markerCheck_of_malformed hkind htouched ?_
    refine hd.imp (fun ⟨hshape, hnot⟩ => ⟨hshape, exactValue_eq_none hkind hnot⟩) fun ⟨v, hvalue, hfails⟩ => ⟨v, hvalue, ?_⟩
    have hcommand (hknown : v.toNat / 2 ^ 56 = 1 ∨ v.toNat / 2 ^ 56 = 2 ∨ v.toNat / 2 ^ 56 = 3) :
        ∃ cmd, markerCommand v = some cmd :=
      Option.ne_none_iff_exists'.mp fun hnone => (markerCommand_eq_none v).mp hnone hknown
    obtain ⟨hcode, hunknown⟩ | ⟨hsig, hknown, hwrong⟩ | ⟨hzero, hknown, hright, hnonzero⟩ := hfails
    · exact .inl ⟨hcode, (markerCommand_eq_none v).mpr hunknown⟩
    · obtain ⟨cmd, hcmd⟩ := hcommand hknown
      exact .inr ⟨cmd, hcmd, .inl ⟨hsig, mt (markerSignature_eq_iff v _).mp hwrong⟩⟩
    · obtain ⟨cmd, hcmd⟩ := hcommand hknown
      exact .inr ⟨cmd, hcmd, .inr ⟨hzero, (markerSignature_eq_iff v _).mpr hright,
        mt (markerZero_eq_zero_iff v).mp hnonzero⟩⟩
  rw [exec_headEvaluation_of_head hhead,
    HeadAndTimers.evaluate_of_malformed (HeadAndTimers.passesAddressSpace_eq_false hroom) hcheck, refuseMalformed_eq]

/-! ### OPEN and COMMIT (R19–R23) -/

theorem refuseMarker_leaveHead (s : State) (m : MarkerWrite) (why : MarkerRefusal) (c : Option ContextIx) :
    (s.refuseMarker m why c).leaveHead = (s.endRequest m.requester (.refused (.marker why))).push
      (.markerRefused c m.requester.initiator m.window why m.address) :=
  State.push_leaveHead _ _

/-- A marker that passed R13 is carried out and leaves the head (R15, R165). -/
theorem exec_of_marker {s : State} {r : UpRequest} {w : WindowIx} {a : Addr} {cmd : MarkerCommand} {v : Word64}
    (hhead : s.HeadIs r) (hrange : passesAddressSpace r = false) (hmarker : s.markerCheck r = .marker w a cmd v)
    (hmode : s.mode.evaluates = true) :
    exec .headEvaluation s = .next (s.marker ⟨requesterOf r, w, a, v⟩ cmd).leaveHead := by
  rw [exec_headEvaluation_of_head hhead, State.evaluate_marker hrange hmarker hmode]

section Open

variable {s : State} {m : MarkerWrite} {c : ContextIx}

theorem openMarker_of_mode (h : s.mode ≠ .online) : s.openMarker m = s.refuseMarker m .mode none := if_pos h

theorem openMarker_of_bound (hmode : s.mode = .online) (h : s.boundContext m.requester.initiator m.window = some c) :
    s.openMarker m = s.refuseMarker m .nested (some c) := by
  simp only [State.openMarker, if_neg (not_not_intro hmode), h]

theorem openMarker_of_full (hmode : s.mode = .online) (h : s.boundContext m.requester.initiator m.window = none)
    (hfull : s.freeContext = none) : s.openMarker m = s.refuseMarker m .full none := by
  simp only [State.openMarker, if_neg (not_not_intro hmode), h, hfull]

theorem openMarker_of_free (hmode : s.mode = .online) (h : s.boundContext m.requester.initiator m.window = none)
    (hfree : s.freeContext = some c) : s.openMarker m =
      ((s.setCtx c (.opened ⟨m.requester.initiator, m.window, markerTag m.value⟩ false s.timebase
        (decide ((s.window m.window).idleTimeout ≠ 0)))).bind m.requester.initiator m.window c).answer m.requester (.ok []) := by
  simp only [State.openMarker, if_neg (not_not_intro hmode), h, hfree]

end Open

/-- Settles O10: the checks of R20 in their order, then the FREE context with the lowest index. -/
theorem openMarkerTakesLowestFreeContext : Obligations.OpenMarkerTakesLowestFreeContext := by
  unfold Obligations.OpenMarkerTakesLowestFreeContext
  intro s r w a v hhead hrange hmarker hmode refused
  have hexec : exec .headEvaluation s = .next (s.openMarker ⟨requesterOf r, w, a, v⟩).leaveHead :=
    exec_of_marker hhead hrange hmarker hmode
  refine ⟨fun hoff => ?_, fun c hon hbound => ?_, fun hon hbound hfull => ?_, fun c hon hbound hctx hlow => ?_⟩
  · rw [hexec, openMarker_of_mode hoff, refuseMarker_leaveHead]; rfl
  · rw [hexec, openMarker_of_bound hon hbound, refuseMarker_leaveHead]; rfl
  · rw [hexec, openMarker_of_full hon hbound (State.freeContext_eq_none.mpr hfull), refuseMarker_leaveHead]; rfl
  · have hfree : s.freeContext = some c := find_contexts_eq (by rw [hctx]; rfl) hlow
    rw [hexec, openMarker_of_free hon hbound hfree]; rfl

section Commit

variable {s : State} {m : MarkerWrite} {c : ContextIx} {o : Owner}

theorem commitMarker_of_unbound (h : s.boundContext m.requester.initiator m.window = none) :
    s.commitMarker m = s.refuseMarker m .noContext none := by
  simp only [State.commitMarker, h]

theorem commitMarker_of_failed {why : FailReason} {since : Word64} {orphan : Option Nat}
    (h : s.boundContext m.requester.initiator m.window = some c) (hctx : s.ctx c = .failed o why since orphan) :
    s.commitMarker m = ((s.setCtx c .free).unbind m.requester.initiator m.window).answer m.requester
      (.failed (.context why)) := by
  simp only [State.commitMarker, h, hctx]

variable {f : Bool} {since : Word64} {idle : Bool}

theorem commitMarker_of_empty (h : s.boundContext m.requester.initiator m.window = some c)
    (hctx : s.ctx c = .opened o f since idle) (hempty : s.entryCount c = 0) :
    s.commitMarker m = ((s.setCtx c .free).unbind m.requester.initiator m.window).answer m.requester (.ok []) := by
  simp only [State.commitMarker, h, hctx, if_pos hempty]

theorem commitMarker_of_entries (h : s.boundContext m.requester.initiator m.window = some c)
    (hctx : s.ctx c = .opened o f since idle) (hsome : 1 ≤ s.entryCount c) :
    s.commitMarker m = s.commitQueued m c o f := by
  simp only [State.commitMarker, h, hctx, if_neg (Nat.one_le_iff_ne_zero.mp hsome)]

theorem commitQueued_of_early (h : (s.window m.window).ackMode = .early) : s.commitQueued m c o f =
    (((s.setCtx c (.queued o f ⟨markerTag m.value, m.address, m.value⟩ none)).unbind m.requester.initiator
      m.window).enqueueCommit c).answer m.requester (.ok []) := by
  simp only [State.commitQueued, h]

theorem commitQueued_of_durable (h : (s.window m.window).ackMode = .durable) : s.commitQueued m c o f =
    ((s.setCtx c (.queued o f ⟨markerTag m.value, m.address, m.value⟩ (some m.requester))).unbind m.requester.initiator
      m.window).enqueueCommit c := by
  simp only [State.commitQueued, h]

end Commit

/-- Settles O11: the four ends of a COMMIT by what the binding of its pair names, its entries and the window's ack mode. -/
theorem commitMarkerQueuesContext : Obligations.CommitMarkerQueuesContext := by
  unfold Obligations.CommitMarkerQueuesContext
  intro s r w a v hhead hrange hmarker hmode unbound
  have hexec : exec .headEvaluation s = .next (s.commitMarker ⟨requesterOf r, w, a, v⟩).leaveHead :=
    exec_of_marker hhead hrange hmarker hmode
  refine ⟨fun hnone => ?_, fun c o why since orphan hbound hctx => ?_, fun c o f since idle hbound hctx => ?_⟩
  · rw [hexec, commitMarker_of_unbound hnone, refuseMarker_leaveHead]; rfl
  · rw [hexec, commitMarker_of_failed hbound hctx]; rfl
  · intro queued
    refine ⟨fun hempty => ?_, fun hsome hack => ?_, fun hsome hack => ?_⟩
    · rw [hexec, commitMarker_of_empty hbound hctx hempty]; rfl
    · rw [hexec, commitMarker_of_entries hbound hctx hsome, commitQueued_of_early hack]; rfl
    · rw [hexec, commitMarker_of_entries hbound hctx hsome, commitQueued_of_durable hack]; rfl

end Sys2Proof.Proofs.Markers
end

section
/-! PROOF. The bytes a bound write leaves in the hold buffer, and the answer of a tracked read. -/

namespace Sys2Proof.Proofs.HeldBytes
open Sys2Proof Sys2Proof.Machine Sys2Proof.Proofs.DataWrites

/-! ### A bound write (R25, R47, R48) -/

/-- A write whose one piece is placed into a context is answered OK from the state its placement leaves (R54, R56). -/
theorem exec_of_placed {s t : State} {r : UpRequest} {bs : List (Option Byte)} {c : ContextIx}
    (h : WriteAtHead s r bs) (hwalk : s.ingress.walk = none) (hpieces : (pieces r).drop Walk.fresh.settled = [(r.addr, bs)])
    (hsettle : s.settlePiece r.initiator (r.addr, bs) = (.placed (some c), t)) :
    exec .headEvaluation s = .next (t.endRequest (requesterOf r) (.ok [])) := by
  have hk : Walk.fresh = s.ingress.walk.getD Walk.fresh := by rw [hwalk]; rfl
  rw [exec_of_write h hk rfl, hpieces, walkPieces_cons [] hsettle rfl]
  exact congrArg _ (completeWalk_of_none (k := ⟨1, [], [c], none⟩) _ rfl)

/-- Settles O14: the one piece goes into the context's own slot at the end of its line's chain, or into the lowest FREE one. -/
theorem boundWriteIsHeld : Obligations.BoundWriteIsHeld := by
  unfold Obligations.BoundWriteIsHeld
  intro s r bs w c o f since idle hhead hwalk hkind hrange hline hany hmarker hmode hw hbound hctx line bytes touched
  have hwrite : WriteAtHead s r bs := ⟨hhead, hkind, hrange, hmarker, .inl hmode⟩
  have hpieces := pieces_drop_fresh hkind (length_pos_of_any hany) hline
  have hbytes : hasBytes (pieceBytes (r.addr, bs)) = true := (hasBytes_lineBytesAt hline).trans hany
  have hsettle := settlePiece_of_opened (p := (r.addr, bs)) hw (bound_of_opened hbound hctx) hbytes
  refine ⟨fun h hlast hown => ?_, fun n hnew hfits hunused hlow => ?_⟩
  · exact exec_of_placed hwrite hwalk hpieces (hsettle.trans (placePiece_of_own hctx hlast hown))
  · exact exec_of_placed hwrite hwalk hpieces ((hsettle.trans (placePiece_of_new hnew)).trans
      (placeNew_of_free hctx (Nat.not_lt.mpr hfits) (State.freeSlot_eq_some hunused hlow)))

/-! ### A tracked read (R73, R74) -/

@[simp] theorem mergeOverlays_length (os : List Overlay) (a : Nat) (data : List Byte) :
    (mergeOverlays os a data).length = data.length := by
  induction data generalizing a with
  | nil => rfl
  | cons b bs ih => simp [mergeOverlays, ih]

/-- Each returned byte stands unless an overlay holds a byte at its address (R73). -/
theorem mergeOverlays_getElem? (os : List Overlay) (a : Nat) (data : List Byte) (j : Nat) :
    (mergeOverlays os a data)[j]? = data[j]?.map fun b => (overlayByte os (a + j)).getD b := by
  induction data generalizing a j with
  | nil => rfl
  | cons b bs ih =>
    cases j with
    | zero => rfl
    | succ j => simp only [mergeOverlays, List.getElem?_cons_succ, ih, Nat.add_right_comm a 1 j, Nat.add_assoc]

/-- Settles O21: the answer reaches the entry that its reference names, which the answer then frees. -/
theorem readAnsweredWithOverlay : Obligations.ReadAnsweredWithOverlay := by
  unfold Obligations.ReadAnsweredWithOverlay
  intro s tag e k x n hentry href hkind htrack freed
  have hexec {response : DownResponse} (hfits : e.kind.fits response = true) :
      exec (.readResponse tag response) s = .next ((s.removeEntry tag).completeRead k response) := by
    have hcommand := Answers.exec_responseCommand hentry hfits
    rw [href] at hcommand
    rw [show exec (.readResponse tag response) s = _ from hcommand]
    unfold State.deliver
    rw [href]
  have htrack' : (s.removeEntry tag).trackEntry k = some x := htrack
  refine ⟨?_, fun data hlen => ⟨mergeOverlays x.overlays x.addr.toNat data, ?_, ?_, fun j b hj => ?_⟩⟩
  · rw [hexec (DownKind.fits_error _)]
    simp only [State.completeRead, htrack']
    rfl
  · rw [hexec (by rw [hkind, DownKind.fits_read, decide_eq_true hlen])]
    simp only [State.completeRead, htrack']
    rfl
  · rw [mergeOverlays_length, hlen]
  · rw [mergeOverlays_getElem?, hj]; rfl

end Sys2Proof.Proofs.HeldBytes
end
